-- ==== Sys2Proof/Word.lean ====
section
/-! DEFINITION. The words of the PL36: a port byte, a 32-bit identity and a mask of pads. -/

namespace Sys2Proof

/-- One byte of the charger port (R174). -/
abbrev Byte := BitVec 8

/-- A 32-bit number: the part's identity or a vehicle's (00, section 6). -/
abbrev Identity := BitVec 32

/-- A set of pads as the held mask carries it: bit n is the member for pad n (R192). -/
abbrev PadMask := BitVec 36

/-- The value nearest to `n` in the range `lo` to `hi` (00, section 4: a clamped field). -/
def clampTo (lo hi n : Nat) : Nat := max lo (min hi n)

end Sys2Proof
end

