-- ==== Sys2Proof/Config.lean ====
section
/-! DEFINITION. The figures that the part fixes, and the values that the spec leaves open.
An `opaque` constant is a free value: nothing can be proved of it but its type. -/

namespace Sys2Proof.Config

/-- A slot period, 250 us, on the slot clock's scale of 0.125 us (02, section 2.1). -/
def slotUnits : Nat := 2000

/-- A round of 40 slot periods, 10 ms, in units of 0.125 us (02, section 2.1). -/
def roundUnits : Nat := 80000

/-- Half a bit cell, 0.5 us, in units of 0.125 us (R1). -/
def halfCellUnits : Nat := 4

/-- The dead band of 2 us in units of 0.125 us (R30). -/
def deadBandUnits : Nat := 16

/-- The largest corrected offset, 40 us, in units of 0.125 us (R30). -/
def maxCorrectionUnits : Nat := 320

/-- The silence limit in slot periods (R32, R35). -/
def silencePeriods : Nat := 80

/-- The shortest low pulse on RST_N that resets, 2 us, in units of 0.125 us (R193). -/
def resetPulseUnits : Nat := 16

/-- The number of pads of a field (00, section 1). -/
def pads : Nat := 36

/-- The number of branches of a feeder (00, section 1). -/
def branches : Nat := 6

/-- The limit in force of a branch with no member of the limit set, kW (R82). -/
def openBranchLimit : Nat := 16000

/-- The largest fill level (R99). -/
def maxLevel : Nat := 16383

/-- The most fills of one computation (R106). -/
def maxFills : Nat := 10

/-- The energy of 0.1 kWh in kW x rounds (R166). -/
def energyUnit : Nat := 36000

/-- The most notices in the queue (R188). -/
def maxNotices : Nat := 16

/-- Product code and revision code of the PL36 (11, section 11.2). -/
def productCode : Nat := 0x5036
def revisionCode : Nat := 0x03

/-- The factory-unique identity of the part (Table 1-3). UNVERIFIED by nature: each part has its own.
A free value, log entry 7. -/
opaque factoryIdentity : Identity

/-- The order in which two blocks act at one instant where the spec gives no order (R23, R188).
A free value, log entries 8 and 9. -/
opaque firstBlockFirst : Nat → Bool

/-- Whether a frame is kept that started before the running round began and after no round boundary
(R25, R32). The argument is its position from the round start. A free value, log entry 10. -/
opaque earlyFrameKept : Int → Bool

/-- The level of PL_TXD after an own frame (R3 gives none). A free value, log entry 11. -/
opaque txdAfterFrame : Nat → Bool

/-- The value of a DOCK_LOST notice while there is no session record (R161 gives none). A free value,
log entry 12. -/
opaque deliveredWithoutRecord : Nat → BitVec 16

end Sys2Proof.Config
end

