-- ==== Sys2Proof/Syntax.lean ====
section
/-! DEFINITION. The commands of the PL36: one constructor for each row of spec/opcode_table.json.
The table gives no operands; those below are what the part reads from outside at that step
(log entry 5). The port commands carry none: their parameters stand in the frame that BYTE_CLOCKED
has assembled (R175). -/

namespace Sys2Proof

/-- One bit cell on the pad line: the levels of its two halves, high = true (R1). -/
structure LineCell where
  first : Bool
  second : Bool
  deriving DecidableEq, Repr

/-- How a burst stands when its cells have been taken (R2): still going on, or the line has gone idle. -/
inductive BurstEnd where
  | running
  | idle
  deriving DecidableEq, Repr

/-- The two contactors of the pad (R140). -/
inductive Contactor where
  | pre
  | main
  deriving DecidableEq, Repr

/-- What begins a power-on reset (R193): RST_N low for a time in units of 0.125 us, or VDD below its
threshold. -/
inductive ResetCondition where
  | rstLow (units : Nat)
  | vddLow
  deriving DecidableEq, Repr

/-- The commands: one constructor for each row of the table, in the table's order. -/
inductive Instr where
  /-- POWER_ON_RESET, R193. -/
  | powerOnReset (cause : ResetCondition)
  /-- PERIOD_START, R18: the levels of CURT, PRE_FB, MAIN_FB and DOCK_SNS, high = true. -/
  | periodStart (curt preFb mainFb dockSns : Bool)
  /-- QUALIFIED_CURTAIL_CHANGE, R83. -/
  | qualifiedCurtailChange
  /-- QUALIFIED_FEEDBACK_CHANGE, R141. -/
  | qualifiedFeedbackChange (c : Contactor)
  /-- QUALIFIED_DOCK_ASSERTION, R158. -/
  | qualifiedDockAssertion
  /-- DOCK_LOSS, R161. -/
  | dockLoss
  /-- CLAIM_FRAME_EVALUATED, R5: the cells received since the burst's last step, and how it stands. -/
  | claimFrameEvaluated (cells : List LineCell) (burst : BurstEnd)
  /-- CLAIM_FILED, R58. -/
  | claimFiled
  /-- OWN_SLOT_START, R20. -/
  | ownSlotStart
  /-- OWN_FRAME_END, R14: the 200 cells read back from PL_RXD. -/
  | ownFrameEnd (readBack : List LineCell)
  /-- COMPUTE_POINT, R21. -/
  | computePoint
  /-- SNAPSHOT_COPY, R67. -/
  | snapshotCopy
  /-- COMPLETION, R110. -/
  | completion
  /-- EXPECTED_COMMIT_WRITE, R66. -/
  | expectedCommitWrite
  /-- TURN_DECISION, R138. -/
  | turnDecision
  /-- APPLY_POINT, R120. -/
  | applyPoint
  /-- SPCHG_PULSE_END, R128. -/
  | spchgPulseEnd
  /-- SWITCH_WINDOW, R143. -/
  | switchWindow
  /-- SWEEP_POINT, R22. -/
  | sweepPoint
  /-- SWEEP, R61. -/
  | sweep
  /-- ROUND_BOUNDARY, R23. -/
  | roundBoundary
  /-- ONE_SECOND_TICK, R167. -/
  | oneSecondTick
  /-- OVERDRAW, R169. -/
  | overdraw
  /-- REPORT_LOST, R169. -/
  | reportLost
  /-- CONFIRM_WINDOW_EXPIRED, R141. -/
  | confirmWindowExpired
  /-- MISALIGNMENT_RESYNC, R50. -/
  | misalignmentResync
  /-- SEARCH_SILENCE_EXPIRED, R32. -/
  | searchSilenceExpired
  /-- REALIGN_TARGET_REACHED, R34. -/
  | realignTargetReached
  /-- REALIGN_SILENCE_FALLBACK, R35. -/
  | realignSilenceFallback
  /-- TRANSACTION_OPEN, R175. -/
  | transactionOpen
  /-- TRANSACTION_CLOSE, R176. -/
  | transactionClose
  /-- UNKNOWN_COMMAND, R177. -/
  | unknownCommand
  /-- SETUP, R178: the strap pins as they read, PAD0 least significant, and the instant in the slot
  period (units of 0.125 us) at which it is taken, from which R32 measures silence. -/
  | setup (straps : BitVec 6) (instant : Nat)
  /-- REPORT, R179. -/
  | report
  /-- DOCK, R155. -/
  | dock
  /-- UPDATE_VEHICLE, R156. -/
  | updateVehicle
  /-- END, R160. -/
  | endCharge
  /-- CLEAR_FAULT, R163. -/
  | clearFault
  /-- READ_STATUS, R182. -/
  | readStatus
  /-- READ_GRANT, R183. -/
  | readGrant
  /-- READ_VIEW, R184. -/
  | readView
  /-- READ_VIEW_ACCESS, R72. -/
  | readViewAccess
  /-- READ_NOTICE, R190. -/
  | readNotice
  /-- RELEASE_HELD, R185. -/
  | releaseHeld
  /-- RELEASE_HELD_ACCESS, R74. -/
  | releaseHeldAccess
  /-- IDENTIFY, R186: the strap pins as they read. -/
  | identify (straps : BitVec 6)
  /-- PORT_RESET, R187: the instant in the slot period at which it is taken. -/
  | portReset (instant : Nat)
  /-- PORT_RESET_VIEW_ACCESS, R78. -/
  | portResetViewAccess
  /-- FRAME_START, R2: the instant of the first transition, in units of 0.125 us from the start of the
  slot period in progress. -/
  | frameStart (transition : Nat)
  /-- LINE_IDLE, R2. -/
  | lineIdle
  /-- BYTE_CLOCKED, R176: the byte in. -/
  | byteClocked (byteIn : Byte)
  /-- RESET_END, R193: the levels of RST_N (high = true), VDD (above threshold = true) and CP_SEL
  (asserted = true). -/
  | resetEnd (rstN vddOk cpSelAsserted : Bool)
  deriving DecidableEq, Repr

end Sys2Proof
end

