-- ==== Sys2Proof/WellFormed.lean ====
section
/-! DEFINITION. Which command terms a sender can give: the operands within what the pins and the line
can show. `exec` does not rely on it (log entry 35). -/

namespace Sys2Proof

/-- The longest slot period: slot period 39 lengthened by 40 us (R19). -/
def longestPeriodUnits : Nat := Config.slotUnits + Config.maxCorrectionUnits

/-- An own frame and a claim frame hold 8 preamble bits and 192 data bits (01, section 1.2). -/
def frameCellCount : Nat := 200

/-- The command's operands are ones the part can be given. -/
def Instr.wellFormed : Instr → Bool
  | .powerOnReset (.rstLow units) => decide (0 < units)
  | .powerOnReset .vddLow => true
  | .claimFrameEvaluated cells _ => decide (cells.length ≤ frameCellCount)
  | .ownFrameEnd readBack => decide (readBack.length = frameCellCount)
  | .setup _ instant => decide (instant < longestPeriodUnits)
  | .portReset instant => decide (instant < longestPeriodUnits)
  | .frameStart transition => decide (transition < longestPeriodUnits)
  | .resetEnd _ _ _ => true
  | .periodStart _ _ _ _ => true
  | .qualifiedCurtailChange => true
  | .qualifiedFeedbackChange _ => true
  | .qualifiedDockAssertion => true
  | .dockLoss => true
  | .claimFiled => true
  | .ownSlotStart => true
  | .computePoint => true
  | .snapshotCopy => true
  | .completion => true
  | .expectedCommitWrite => true
  | .turnDecision => true
  | .applyPoint => true
  | .spchgPulseEnd => true
  | .switchWindow => true
  | .sweepPoint => true
  | .sweep => true
  | .roundBoundary => true
  | .oneSecondTick => true
  | .overdraw => true
  | .reportLost => true
  | .confirmWindowExpired => true
  | .misalignmentResync => true
  | .searchSilenceExpired => true
  | .realignTargetReached => true
  | .realignSilenceFallback => true
  | .transactionOpen => true
  | .transactionClose => true
  | .unknownCommand => true
  | .report => true
  | .dock => true
  | .updateVehicle => true
  | .endCharge => true
  | .clearFault => true
  | .readStatus => true
  | .readGrant => true
  | .readView => true
  | .readViewAccess => true
  | .readNotice => true
  | .releaseHeld => true
  | .releaseHeldAccess => true
  | .identify _ => true
  | .portResetViewAccess => true
  | .lineIdle => true
  | .byteClocked _ => true

end Sys2Proof
end

