-- ==== Sys2Proof/Decode.lean ====
section
/-! DEFINITION. Reading a command from a word by the table's bits. -/

namespace Sys2Proof

/-- No row of spec/opcode_table.json gives bits ("fields": [] in every row, and no fixed bits), so no
word spells a command. -/
def decodeTableWord (_nbits _w : Nat) : Option Instr := none

end Sys2Proof
end

