-- ==== Sys2Proof/Machine/State.lean ====
section
/-! DEFINITION. The state of the PL36, block by block, as plain data, and the state right after reset.
INVENTORY.md lists each field with the rule that names it. -/

namespace Sys2Proof.Machine

/-! ### Claims -/

/-- The kind of a claim (Table 1-2, Table 11-2). -/
inductive Kind where
  | vacant | waiting | active | stopping | faulted
  deriving DecidableEq, Repr

/-- The intent of a claim (R133). -/
inductive Intent where
  | nothing | connect | switched
  deriving DecidableEq, Repr

/-- The fields of a claim but its check field (Table 1-2). Powers in kW. -/
structure Claim where
  pad : Nat
  branch : Nat
  kind : Kind
  identity : Identity
  request : Nat
  floor : Nat
  weight : Nat
  draw : Nat
  commit : Nat
  intent : Intent
  intentAge : Nat
  branchLimit : Nat
  feederLimit : Nat
  curtailLimit : Nat
  curtailFlag : Bool
  heldMask : PadMask
  deriving DecidableEq, Repr

/-- The reset claim (R11). -/
def Claim.reset : Claim :=
  { pad := 0, branch := 0, kind := .vacant, identity := 0, request := 0, floor := 0, weight := 0,
    draw := 0, commit := 0, intent := .nothing, intentAge := 0, branchLimit := 0, feederLimit := 0,
    curtailLimit := 0, curtailFlag := false, heldMask := 0 }

/-- One half of the claim buffer: 176 content bits and the check field (R11). -/
structure Half where
  claim : Claim
  check : BitVec 16
  deriving DecidableEq, Repr

/-- A half holding the reset claim. DESIGN CHOICE: its check field is 0; R11 gives it no value
(log entry 13). -/
def Half.reset : Half := { claim := Claim.reset, check := 0 }

/-! ### Line interface -/

/-- The echo-check result (R15). -/
inductive Echo where
  | notSent | good | failed
  deriving DecidableEq, Repr

/-- The reception states of Table 1-1, and the echo check in which the receiver serves the own frame
(R10). -/
inductive RxState where
  | idle | preamble | data | drain | echoCheck
  deriving DecidableEq, Repr

/-- The receiver: its state, the bits collected of the burst, and the frame start (R1, R2). -/
structure Rx where
  state : RxState
  bits : List Bool
  start : Int
  deriving DecidableEq, Repr

/-- The line interface (Chapter 1). -/
@[ext] structure Line where
  pending : Half
  sent : Half
  echo : Echo
  errors : Nat
  rx : Rx
  register : Option Claim
  txActive : Bool
  txAbandoned : Bool
  txd : Bool
  deriving DecidableEq, Repr

/-! ### Round timer -/

/-- The timer modes of Table 2-1. -/
inductive TimerMode where
  | halted | search | running | realign
  deriving DecidableEq, Repr

/-- The reference candidate: a pad and its offset in units of 0.125 us (R27). -/
structure Reference where
  pad : Nat
  offset : Int
  deriving DecidableEq, Repr

/-- The round timer (Chapter 2). Instants are readings of the slot clock, in units of 0.125 us. -/
@[ext] structure Timer where
  mode : TimerMode
  slot : Option Nat
  periodStart : Int
  nextPeriod : Int
  roundStart : Int
  searchStart : Int
  roundCounter : BitVec 16
  tickCount : Nat
  reference : Option Reference
  misaligned : Nat
  silence : Nat
  target : Option Int
  inGap : Bool
  lastBoundary : Option Int
  deriving DecidableEq, Repr

/-! ### Standing controller -/

/-- The line standings of Table 3-1. -/
inductive Standing where
  | unconfigured | acquire | listen | active | backoff | isolated | resync | conflict
  deriving DecidableEq, Repr

/-- The standing controller (Chapter 3). -/
@[ext] structure StandingCtl where
  state : Standing
  pad : Option Nat
  failures : Nat
  backoff : Nat
  goodRun : Nat
  occupant : Option Identity
  skipped : Bool
  deriving DecidableEq, Repr

/-! ### View store -/

/-- The entry states of Table 4-1. -/
inductive EntryState where
  | empty | live | stale | held | adopted
  deriving DecidableEq, Repr

/-- One entry of the peer view (R56). -/
structure Entry where
  state : EntryState
  claim : Option Claim
  heard : Bool
  age : Option Nat
  reserve : Option Nat
  expected : Option Nat
  mismatch : Bool
  excess : Option Nat
  deriving DecidableEq, Repr

/-- An EMPTY entry: it has lost every field (R56). -/
def Entry.blank : Entry :=
  { state := .empty, claim := none, heard := false, age := none, reserve := none, expected := none,
    mismatch := false, excess := none }

/-- The view table with the held set, the entry counts and the read cursor (R55, R57, R72). -/
@[ext] structure View where
  entries : List Entry
  held : PadMask
  liveCount : Nat
  staleCount : Nat
  heldCount : Nat
  adoptedCount : Nat
  cursor : Nat
  deriving DecidableEq, Repr

/-- The accesses that the view store arbiter grants (R68). -/
inductive Access where
  | claimWrite | snapshot | expectedWrite | sweep | readView | releaseHeld | portResetView
  deriving DecidableEq, Repr

/-- The view store arbiter: the access that holds the store, and the waiting requests in the order in
which they were raised (R68, R70). -/
structure Store where
  grant : Option Access
  waiting : List Access
  deriving DecidableEq, Repr

/-! ### Configuration, qualifier and limit unit -/

/-- The configuration that SETUP stores (R178). All fields read 0 before SETUP (R186). -/
structure Setup where
  branch : Nat
  branchLimit : Nat
  feederLimit : Nat
  curtailLimit : Nat
  chargerRating : Nat
  rampStep : Nat
  prechargeRounds : Nat
  openThreshold : Nat
  adoptionReserve : Nat
  curtailSamples : Nat
  deriving DecidableEq, Repr

/-- A qualified input: its qualified level (asserted or closed = true) and its run (R83, R140, R157). -/
structure QInput where
  level : Bool
  run : Nat
  deriving DecidableEq, Repr

/-- The input qualifier. -/
structure Qualifiers where
  curtail : QInput
  preFb : QInput
  mainFb : QInput
  dock : QInput
  deriving DecidableEq, Repr

/-- The limit unit's own state (Chapter 5). -/
structure Limit where
  assertionSeen : Bool
  levelSeen : Bool
  ownCurtail : Bool
  inForce : Bool
  feeder : Nat
  branches : List Nat
  feederBudget : Nat
  branchBudgets : List Nat
  deriving DecidableEq, Repr

/-! ### Share engine -/

/-- The snapshot of the compute point (R67). -/
structure Snapshot where
  entries : List Entry
  own : Claim
  echo : Echo
  deriving DecidableEq, Repr

/-- One participant of the round (R96, R97). -/
structure Participant where
  pad : Nat
  branch : Nat
  request : Nat
  floor : Nat
  weight : Nat
  deriving DecidableEq, Repr

/-- What became of a participant (R109). -/
inductive Disposition where
  | filled | setAside | excluded
  deriving DecidableEq, Repr

/-- One row of the result table (R109). -/
structure ResultRow where
  pad : Nat
  branch : Nat
  share : Nat
  disposition : Disposition
  deriving DecidableEq, Repr

/-- The published results of the last completion (R109, R110). -/
structure Published where
  rows : List ResultRow
  lastLevel : Nat
  fillCount : Nat
  participantCount : Nat
  stamp : BitVec 16
  feederBudget : Nat
  ownBranchBudget : Nat
  ownShare : Nat
  ownParticipant : Bool
  deriving DecidableEq, Repr

/-- Where a share computation stands (R95). -/
inductive SharePhase where
  | none | awaitingSnapshot | computing
  deriving DecidableEq, Repr

/-- The share engine (Chapter 6). The fill's figures are those of the last fill run. -/
structure Share where
  phase : SharePhase
  snapshot : Option Snapshot
  participants : List Participant
  fillNumber : Nat
  fillLevel : Nat
  frozen : List (Nat × Nat)
  excluded : List Nat
  published : Published
  deriving DecidableEq, Repr

/-! ### Apply unit, turn planner, contactor sequencer -/

/-- The apply unit (Table 7-1). -/
structure ApplyUnit where
  grant : Nat
  applied : Nat
  lastCommit : Nat
  lastEchoed : Nat
  spchg : Bool
  deriving DecidableEq, Repr

/-- A turn candidate (R135). -/
structure Candidate where
  pad : Nat
  branch : Nat
  age : Nat
  deriving DecidableEq, Repr

/-- The turn planner (08). `barred`: a conflict or a contactor fault has been taken since the compute point of
the decision that is outstanding (R138). -/
structure Turn where
  order : List Candidate
  given : List Candidate
  ownTurn : Bool
  intentAge : Nat
  ownCandidate : Option Candidate
  deciding : Bool
  barred : Bool
  deriving DecidableEq, Repr

/-- A contactor's confirm state (R141). -/
inductive Confirm where
  | agreed
  | awaiting (count : Nat)
  | failed
  deriving DecidableEq, Repr

/-- The sequence phases of Table 8-2. -/
inductive Phase where
  | idle | turnTaken | precharging | mainClosing | preRelease | on | opening | faulted
  deriving DecidableEq, Repr

/-- The open mode (R147). -/
inductive OpenMode where
  | none | normal | forced
  deriving DecidableEq, Repr

/-- The contactor sequencer (08). `switchedFresh`: the marker was set in the round in progress. -/
@[ext] structure Seq where
  preDrive : Bool
  mainDrive : Bool
  preConfirm : Confirm
  mainConfirm : Confirm
  phase : Phase
  prechargeCount : Nat
  openMode : OpenMode
  openTimeout : Nat
  switched : Bool
  switchedFresh : Bool
  deriving DecidableEq, Repr

/-! ### Session controller -/

/-- The session states of Table 9-1. -/
inductive SessionState where
  | vacant | docked | intent | precharge | connected | stopping | released | fault
  deriving DecidableEq, Repr

/-- The class of a session record (Table 9-2). -/
inductive VehicleClass where
  | normal | urgent
  deriving DecidableEq, Repr

/-- The session record (Table 9-2). -/
structure Record where
  vehicle : Identity
  maxAccept : Nat
  floor : Option Nat
  energyNeeded : Nat
  departure : Option Nat
  vehicleClass : Option VehicleClass
  delivered : Nat
  accumulator : Nat
  deriving DecidableEq, Repr

/-- An event held during a turn decision (R138). -/
inductive HeldEvent where
  | endCommand | dockLoss
  deriving DecidableEq, Repr

/-- The session controller (Chapter 9). -/
@[ext] structure Session where
  state : SessionState
  record : Option Record
  lastMeasured : Nat
  reportAge : Nat
  overdrawRun : Nat
  held : List HeldEvent
  deriving DecidableEq, Repr

/-- The causes of a change of session state (R164). -/
inductive Cause where
  | setup | dockAsserted | dockCommand | turn | mainConfirmed | endCommand | complete | reportLost
  | dockLost | conflict | opened | contactorFault | overdraw | clearFault
  deriving DecidableEq, Repr

/-! ### Charger port and notices -/

/-- The transaction states of Table 10-1. -/
inductive Txn where
  | closed | command | execute | response | spent
  deriving DecidableEq, Repr

/-- The commands that wait before they are taken or answered (R176, R187). -/
inductive WaitingCommand where
  | readView (start : Option Nat) (count : Nat) (skipEmpty : Bool)
  | releaseHeld (ranges : List (Nat × Nat))
  | endCommand
  | portReset
  deriving DecidableEq, Repr

/-- The command in execution, and whether its transaction has closed, so that its response is lost
(R176). -/
structure PortWait where
  command : WaitingCommand
  responseLost : Bool
  deriving DecidableEq, Repr

/-- The reset cause (R182). -/
inductive ResetCause where
  | power | port
  deriving DecidableEq, Repr

/-- The charger port (Chapter 10). `dout` is the byte clocked out last in the transaction (R174), none before
the first. -/
@[ext] structure Port where
  txn : Txn
  assembly : List Byte
  ready : Option (List Byte)
  waiting : Option PortWait
  response : Option (List Byte)
  readPos : Nat
  resetCause : ResetCause
  dout : Option Byte
  deriving DecidableEq, Repr

/-- The notice kinds of Table 10-4. -/
inductive NoticeKind where
  | session | contactorFault | dockLost | turnClash | heldSet | heldCleared | identityChanged
  | viewMismatch | conflict | isolated | rejoined | resync | curtailOn | curtailOff | overdraw
  | reportLost
  deriving DecidableEq, Repr

/-- A notice (R188). -/
structure Notice where
  kind : NoticeKind
  stamp : BitVec 16
  pad : Option Nat
  value : Option Nat
  deriving DecidableEq, Repr

/-- The notice queue with the lost-notice flag, and ATTN (asserted = true) (R188, R189). -/
structure NoticeQueue where
  queue : List Notice
  lost : Bool
  attn : Bool
  deriving DecidableEq, Repr

/-! ### The model's own bookkeeping and the pins -/

/-- Steps that have been made due and not yet taken (log entry 3): the named points of the slot period
in progress, and the steps that fall at the last round boundary. `overdraw` and `reportLost` carry the
value that the boundary found. -/
@[ext] structure Due where
  ownSlot : Bool
  compute : Bool
  apply : Bool
  switchWindow : Bool
  sweepPoint : Bool
  spchgEnd : Bool
  tick : Bool
  resync : Bool
  overdraw : Option Nat
  reportLost : Option Nat
  deriving DecidableEq, Repr

/-- Nothing is due. -/
def Due.nothing : Due :=
  { ownSlot := false, compute := false, apply := false, switchWindow := false, sweepPoint := false,
    spchgEnd := false, tick := false, resync := false, overdraw := none, reportLost := none }

/-- The input pins as the last command that read them saw them; a level, high = true (Table 11-8). -/
structure InputPins where
  rstN : Bool
  vddOk : Bool
  cpSel : Bool
  cpClk : Bool
  cpDin : Bool
  plRxd : Bool
  dockSns : Bool
  curt : Bool
  preFb : Bool
  mainFb : Bool
  straps : BitVec 6
  deriving DecidableEq, Repr

/-- What PL_TXD shows: a level, high = true, or, in the one step that stands for an own frame (log entry 6),
the frame's cells, in the order in which they are sent (R3). -/
inductive TxdPin where
  | level (high : Bool)
  | frame (cells : List LineCell)
  deriving DecidableEq, Repr

/-- The levels of the output pins, high = true; PL_TXD with the frame it sends; CP_DOUT with its level, `none`
when it is high-impedance, and with the bits that it sent in the eight clocks of the last byte of the
transaction, in the order in which they were sent (R174, Table 11-8). -/
structure OutputPins where
  plTxd : TxdPin
  plDe : Bool
  cpDout : Option Bool
  cpDoutBits : List Bool
  attn : Bool
  spchg : Bool
  preDrv : Bool
  mainDrv : Bool
  deriving DecidableEq, Repr

/-- The whole PL36. `free` picks the next free value (log entry 33); `pending` is the queue of commands,
first in first out. -/
@[ext]
structure State where
  identity : Identity
  resetHeld : Bool
  inputs : InputPins
  cfg : Setup
  qual : Qualifiers
  line : Line
  timer : Timer
  standing : StandingCtl
  view : View
  store : Store
  limit : Limit
  share : Share
  applyUnit : ApplyUnit
  turn : Turn
  seq : Seq
  session : Session
  port : Port
  notices : NoticeQueue
  due : Due
  free : Nat
  pending : List Instr
  deriving DecidableEq, Repr

/-- A machine fault. The spec describes none: what the manual calls a fault (contactor fault, overdraw)
changes state and raises a notice (R142, R169), so no meaning stops and there is no constructor. -/
inductive Fault where
  deriving DecidableEq, Repr

/-- A refusal of the model. -/
inductive Refusal where
  /-- Raised by `exec` for a command that has no meaning yet; safe, since the run stops there. No arm of
  `exec` answers with it now. -/
  | notModelled (mnemonic : String)
  deriving DecidableEq, Repr

/-! ### Power-on values -/

/-- R186: every configuration field reads 0 before SETUP. -/
def Setup.powerOn : Setup :=
  { branch := 0, branchLimit := 0, feederLimit := 0, curtailLimit := 0, chargerRating := 0,
    rampStep := 0, prechargeRounds := 0, openThreshold := 0, adoptionReserve := 0, curtailSamples := 0 }

/-- An input qualified deasserted or open, with its run at 0. -/
def QInput.powerOn : QInput := { level := false, run := 0 }

/-- R83, R140, R157. -/
def Qualifiers.powerOn : Qualifiers :=
  { curtail := QInput.powerOn, preFb := QInput.powerOn, mainFb := QInput.powerOn, dock := QInput.powerOn }

/-- R2: IDLE. The frame start has no stated reset value (log entry 14). -/
def Rx.powerOn : Rx := { state := .idle, bits := [], start := 0 }

/-- R16. DESIGN CHOICE (log entry 44): PL_TXD stays high from the end of the reset to the first own frame; R193
drives it high while the reset is held, and R16 gives no level after it. -/
def Line.powerOn : Line :=
  { pending := Half.reset, sent := Half.reset, echo := .notSent, errors := 0, rx := Rx.powerOn,
    register := none, txActive := false, txAbandoned := false, txd := true }

/-- R36. The clock's instants start at 0, an origin of the model's (log entry 4). -/
def Timer.powerOn : Timer :=
  { mode := .halted, slot := none, periodStart := 0, nextPeriod := 0, roundStart := 0, searchStart := 0,
    roundCounter := 0, tickCount := 0, reference := none, misaligned := 0, silence := 0, target := none,
    inGap := false, lastBoundary := none }

/-- R39. -/
def StandingCtl.powerOn : StandingCtl :=
  { state := .unconfigured, pad := none, failures := 0, backoff := 0, goodRun := 0, occupant := none,
    skipped := false }

/-- R76. -/
def View.powerOn : View :=
  { entries := List.replicate Config.pads Entry.blank, held := 0, liveCount := 0, staleCount := 0,
    heldCount := 0, adoptedCount := 0, cursor := 0 }

/-- R76: the arbiter is idle, with no request waiting. -/
def Store.idle : Store := { grant := none, waiting := [] }

/-- R93. -/
def Limit.powerOn : Limit :=
  { assertionSeen := false, levelSeen := false, ownCurtail := false, inForce := false, feeder := 0,
    branches := List.replicate Config.branches 0, feederBudget := 0,
    branchBudgets := List.replicate Config.branches 0 }

/-- R115. -/
def Published.powerOn : Published :=
  { rows := [], lastLevel := 0, fillCount := 0, participantCount := 0, stamp := 0, feederBudget := 0,
    ownBranchBudget := 0, ownShare := 0, ownParticipant := false }

/-- R115. DESIGN CHOICE (log entry 21): with no fill in progress the fill number and level are 0 and the
participant list and both sets empty; R115 gives them no value. -/
def Share.powerOn : Share :=
  { phase := .none, snapshot := none, participants := [], fillNumber := 0, fillLevel := 0, frozen := [],
    excluded := [], published := Published.powerOn }

/-- R131. -/
def ApplyUnit.powerOn : ApplyUnit :=
  { grant := 0, applied := 0, lastCommit := 0, lastEchoed := 0, spchg := false }

/-- R151. -/
def Turn.powerOn : Turn :=
  { order := [], given := [], ownTurn := false, intentAge := 0, ownCandidate := none, deciding := false,
    barred := false }

/-- R151. -/
def Seq.powerOn : Seq :=
  { preDrive := false, mainDrive := false, preConfirm := .agreed, mainConfirm := .agreed, phase := .idle,
    prechargeCount := 0, openMode := .none, openTimeout := 0, switched := false, switchedFresh := false }

/-- R172. -/
def Session.powerOn : Session :=
  { state := .vacant, record := none, lastMeasured := 0, reportAge := 0, overdrawRun := 0, held := [] }

/-- R191. DESIGN CHOICE (log entry 14): the read position of the response is 0; R191 gives it no value. -/
def Port.powerOn : Port :=
  { txn := .closed, assembly := [], ready := none, waiting := none, response := none, readPos := 0,
    resetCause := .power, dout := none }

/-- R191. -/
def NoticeQueue.powerOn : NoticeQueue := { queue := [], lost := false, attn := false }

/-- The input pins at rest: reset ended, nothing asserted, the line idle, the straps open (log entry 14). -/
def InputPins.atRest : InputPins :=
  { rstN := true, vddOk := true, cpSel := true, cpClk := false, cpDin := false, plRxd := true,
    dockSns := true, curt := true, preFb := true, mainFb := true, straps := 63 }

/-- The machine right after power-on reset has ended with CP_SEL deasserted (R193): every block at the
power-on values of its chapter. -/
def State.reset : State :=
  { identity := Config.factoryIdentity, resetHeld := false, inputs := InputPins.atRest,
    cfg := Setup.powerOn, qual := Qualifiers.powerOn, line := Line.powerOn, timer := Timer.powerOn,
    standing := StandingCtl.powerOn, view := View.powerOn, store := Store.idle, limit := Limit.powerOn,
    share := Share.powerOn, applyUnit := ApplyUnit.powerOn, turn := Turn.powerOn, seq := Seq.powerOn,
    session := Session.powerOn, port := Port.powerOn, notices := NoticeQueue.powerOn,
    due := Due.nothing, free := 0, pending := [] }

end Sys2Proof.Machine
end

