-- ==== Sys2Proof/Machine/Operands.lean ====
section
/-! DEFINITION. The formats of Chapter 11: bits and bytes, the claim frame with its check field, line
cells, and the codes of the port's frames. -/

namespace Sys2Proof.Machine

/-! ### Bits and bytes -/

/-- The `width` low bits of `n`, most significant first (R192). -/
def bitsOfNat : (width n : Nat) → List Bool
  | 0, _ => []
  | w + 1, n => n.testBit w :: bitsOfNat w n

/-- The number whose bits, most significant first, are `bits`. -/
def natOfBits (bits : List Bool) : Nat := bits.foldl (fun acc b => 2 * acc + b.toNat) 0

/-- The number in `width` bits of `bits` from position `offset` (Table 11-1). -/
def fieldOf (bits : List Bool) (offset width : Nat) : Nat := natOfBits ((bits.drop offset).take width)

/-- The bytes of a string of bits, bit 0 being the most significant bit of the first byte (R192). -/
def bytesOfBits (count : Nat) (bits : List Bool) : List Byte :=
  (List.range count).map fun i => BitVec.ofNat 8 (fieldOf bits (8 * i) 8)

/-- A number as one byte. -/
def byte1 (n : Nat) : List Byte := [BitVec.ofNat 8 n]

/-- A number as two bytes, most significant first (R192). -/
def byte2 (n : Nat) : List Byte := [BitVec.ofNat 8 (n / 256), BitVec.ofNat 8 n]

/-- A number as four bytes, most significant first (R192). -/
def byte4 (n : Nat) : List Byte := byte2 (n / 65536) ++ byte2 n

/-- Parameter byte `i` of a command frame. -/
def param1 (ps : List Byte) (i : Nat) : Nat := (ps.getD i 0).toNat

/-- The two parameter bytes from position `i`, most significant first. -/
def param2 (ps : List Byte) (i : Nat) : Nat := 256 * param1 ps i + param1 ps (i + 1)

/-- The four parameter bytes from position `i`, most significant first. -/
def param4 (ps : List Byte) (i : Nat) : Nat := 65536 * param2 ps i + param2 ps (i + 2)

/-- A flag as bit `n` of a byte or mask. -/
def flagBit (n : Nat) (b : Bool) : Nat := if b then 2 ^ n else 0

/-! ### Line cells (R1) -/

/-- A cell of value 1 is high then low, a cell of value 0 low then high (R1). -/
def cellOfBit (b : Bool) : LineCell := { first := b, second := !b }

/-- The value of a cell; none where no mid-cell transition occurs, a coding violation (R1). -/
def bitOfCell (c : LineCell) : Option Bool := if c.first = c.second then none else some c.first

/-- The bits recovered before the first coding violation. -/
def bitsBeforeViolation : List LineCell → List Bool
  | [] => []
  | c :: cs => match bitOfCell c with
    | some b => b :: bitsBeforeViolation cs
    | none => []

/-- A coding violation occurs among the cells. -/
def hasViolation (cells : List LineCell) : Bool := cells.any fun c => (bitOfCell c).isNone

/-! ### The claim frame (Tables 11-1, 11-2; R4) -/

/-- The preamble (R3). -/
def preambleBits : List Bool := [true, false, true, false, true, false, true, true]

/-- Kind codes (Table 11-2). -/
def kindCode : Kind → Nat
  | .vacant => 1
  | .waiting => 2
  | .active => 3
  | .stopping => 4
  | .faulted => 5

/-- The kind of a code; none for a code that makes the frame invalid (Table 11-2). -/
def kindOfCode : Nat → Option Kind
  | 1 => some .vacant
  | 2 => some .waiting
  | 3 => some .active
  | 4 => some .stopping
  | 5 => some .faulted
  | _ => none

/-- Intent codes (Table 11-2). -/
def intentCode : Intent → Nat
  | .nothing => 0
  | .connect => 1
  | .switched => 2

/-- The intent of a code; the fourth code is taken as NONE (R7). -/
def intentOfCode : Nat → Intent
  | 1 => .connect
  | 2 => .switched
  | _ => .nothing

/-- The 176 content bits of a claim, in order of transmission (Table 11-1). -/
def claimBits (c : Claim) : List Bool :=
  bitsOfNat 6 c.pad ++ bitsOfNat 3 c.branch ++ bitsOfNat 4 (kindCode c.kind)
    ++ bitsOfNat 32 c.identity.toNat ++ bitsOfNat 10 c.request ++ bitsOfNat 10 c.floor
    ++ bitsOfNat 4 c.weight ++ bitsOfNat 10 c.draw ++ bitsOfNat 10 c.commit
    ++ bitsOfNat 2 (intentCode c.intent) ++ bitsOfNat 8 c.intentAge ++ bitsOfNat 12 c.branchLimit
    ++ bitsOfNat 14 c.feederLimit ++ bitsOfNat 14 c.curtailLimit ++ [c.curtailFlag]
    ++ bitsOfNat 36 c.heldMask.toNat

/-- One bit into the register of the CRC with polynomial x^16 + x^12 + x^5 + 1 (R4). -/
def crcStep (r : BitVec 16) (b : Bool) : BitVec 16 :=
  if r.msb != b then (r <<< 1) ^^^ 0x1021 else r <<< 1

/-- The check field of a string of content bits (R4): the register starts at all ones. -/
def crc16 (bits : List Bool) : BitVec 16 := bits.foldl crcStep 0xFFFF

/-- The 192 data bits of a half of the claim buffer (R3). -/
def halfBits (h : Half) : List Bool := claimBits h.claim ++ bitsOfNat 16 h.check.toNat

/-- The 200 bits of an own frame (R3). -/
def frameBits (h : Half) : List Bool := preambleBits ++ halfBits h

/-- The cells of an own frame on the line (R1, R3). -/
def frameCells (h : Half) : List LineCell := (frameBits h).map cellOfBit

/-- The check field of 192 data bits matches (R4). -/
def checkMatches (d : List Bool) : Bool := (crc16 (d.take 176)).toNat == fieldOf d 176 16

/-- Items 3 and 4 of R5: the check matches, and pad, branch and kind are legal. -/
def frameValid (d : List Bool) : Bool :=
  checkMatches d && decide (fieldOf d 0 6 ≤ 35) && decide (fieldOf d 6 3 ≤ 5)
    && (kindOfCode (fieldOf d 9 4)).isSome

/-- The claim in 192 data bits, its values as collected, but for the intent, whose fourth code has no
other reading (Table 11-1, R7). -/
def claimOfBits (d : List Bool) : Claim :=
  { pad := fieldOf d 0 6
    branch := fieldOf d 6 3
    kind := (kindOfCode (fieldOf d 9 4)).getD .vacant
    identity := BitVec.ofNat 32 (fieldOf d 13 32)
    request := fieldOf d 45 10
    floor := fieldOf d 55 10
    weight := fieldOf d 65 4
    draw := fieldOf d 69 10
    commit := fieldOf d 79 10
    intent := intentOfCode (fieldOf d 89 2)
    intentAge := fieldOf d 91 8
    branchLimit := fieldOf d 99 12
    feederLimit := fieldOf d 111 14
    curtailLimit := fieldOf d 125 14
    curtailFlag := fieldOf d 139 1 == 1
    heldMask := BitVec.ofNat 36 (fieldOf d 140 36) }

/-- R7: the values clamped to the receiver's ranges, and a weight of 0 with kind ACTIVE taken as 1. -/
def normalise (c : Claim) : Claim :=
  { c with
    request := min c.request 1000
    floor := min c.floor 1000
    weight := if c.kind = .active ∧ c.weight = 0 then 1 else c.weight
    branchLimit := min c.branchLimit 4000
    feederLimit := min c.feederLimit 16000
    curtailLimit := min c.curtailLimit 16000 }

/-- R14: the cells read back hold the preamble and the data bits of the half, and their CRC matches. -/
def echoGood (h : Half) (readBack : List LineCell) : Bool :=
  !hasViolation readBack && bitsBeforeViolation readBack == frameBits h
    && checkMatches ((bitsBeforeViolation readBack).drop 8)

/-! ### Codes of the charger port (Tables 11-2 to 11-7) -/

/-- Line standing codes (Table 11-2). -/
def standingCode : Standing → Nat
  | .unconfigured => 0
  | .acquire => 1
  | .listen => 2
  | .active => 3
  | .backoff => 4
  | .isolated => 5
  | .resync => 6
  | .conflict => 7

/-- Session state codes (Table 11-2). -/
def sessionCode : SessionState → Nat
  | .vacant => 0
  | .docked => 1
  | .intent => 2
  | .precharge => 3
  | .connected => 4
  | .stopping => 5
  | .released => 6
  | .fault => 7

/-- Entry state codes (Table 11-2); SELF is 5. -/
def entryCode : EntryState → Nat
  | .empty => 0
  | .live => 1
  | .stale => 2
  | .held => 3
  | .adopted => 4

/-- Class codes (Table 11-2). -/
def classCode : VehicleClass → Nat
  | .normal => 0
  | .urgent => 1

/-- The class of a code; other values are taken as NORMAL (Table 11-2). -/
def classOfCode (n : Nat) : VehicleClass := if n = 1 then .urgent else .normal

/-- Notice kind codes (Table 11-7). -/
def noticeCode : NoticeKind → Nat
  | .session => 1
  | .contactorFault => 2
  | .dockLost => 3
  | .turnClash => 4
  | .heldSet => 5
  | .heldCleared => 6
  | .identityChanged => 7
  | .viewMismatch => 8
  | .conflict => 9
  | .isolated => 10
  | .rejoined => 11
  | .resync => 12
  | .curtailOn => 13
  | .curtailOff => 14
  | .overdraw => 15
  | .reportLost => 16

/-- Cause codes of a SESSION notice (11, section 11.3). -/
def causeCode : Cause → Nat
  | .setup => 1
  | .dockAsserted => 2
  | .dockCommand => 3
  | .turn => 4
  | .mainConfirmed => 5
  | .endCommand => 6
  | .complete => 7
  | .reportLost => 8
  | .dockLost => 9
  | .conflict => 10
  | .opened => 11
  | .contactorFault => 12
  | .overdraw => 13
  | .clearFault => 14

/-- The value of a SESSION notice: new state in bits 15 to 8, cause in bits 7 to 0 (11, section 11.3). -/
def sessionNoticeValue (st : SessionState) (cause : Cause) : Nat :=
  256 * sessionCode st + causeCode cause

/-- The fault codes of Table 8-1: not confirmed closed, not confirmed open, opened while driven on,
closed while driven off, for PRE and then MAIN. -/
def notConfirmedCode (c : Contactor) (driven : Bool) : Nat :=
  match c, driven with
  | .pre, true => 1
  | .pre, false => 2
  | .main, true => 5
  | .main, false => 6

/-- The fault codes of Table 8-1 for a feedback that moved away from its drive. -/
def movedAwayCode (c : Contactor) (driven : Bool) : Nat :=
  match c, driven with
  | .pre, true => 3
  | .pre, false => 4
  | .main, true => 7
  | .main, false => 8

/-- Response codes (Table 11-4). -/
def rspDone : Byte := 0x80
def rspClamped : Byte := 0x81
def rspStopped : Byte := 0x82
def rspRefusedState : Byte := 0xC1
def rspRefusedLocked : Byte := 0xC2
def rspRefusedFormat : Byte := 0xC3

/-- Command codes (Table 11-3). -/
def codeSetup : Byte := 0x01
def codeReport : Byte := 0x02
def codeDock : Byte := 0x03
def codeUpdateVehicle : Byte := 0x04
def codeEnd : Byte := 0x05
def codeClearFault : Byte := 0x06
def codeReadStatus : Byte := 0x10
def codeReadGrant : Byte := 0x11
def codeReadView : Byte := 0x12
def codeReadNotice : Byte := 0x13
def codeReleaseHeld : Byte := 0x14
def codeIdentify : Byte := 0x15
def codePortReset : Byte := 0x1F

/-- The codes that name a command (Table 11-3). -/
def commandCodes : List Byte :=
  [codeSetup, codeReport, codeDock, codeUpdateVehicle, codeEnd, codeClearFault, codeReadStatus,
    codeReadGrant, codeReadView, codeReadNotice, codeReleaseHeld, codeIdentify, codePortReset]

/-- A response frame: code, length, data (11, section 11.2). -/
def responseFrame (code : Byte) (data : List Byte) : List Byte :=
  code :: BitVec.ofNat 8 data.length :: data

/-- The frame is complete: code, length, and as many parameter bytes as the length states (R175). -/
def frameComplete : List Byte → Bool
  | _ :: len :: ps => decide (ps.length = len.toNat)
  | _ => false

/-- The configuration in the layout of SETUP's parameters (Table 11-3). -/
def configBytes (c : Setup) : List Byte :=
  byte1 c.branch ++ byte2 c.branchLimit ++ byte2 c.feederLimit ++ byte2 c.curtailLimit
    ++ byte2 c.chargerRating ++ byte1 c.rampStep ++ byte1 c.prechargeRounds ++ byte1 c.openThreshold
    ++ byte2 c.adoptionReserve ++ byte1 c.curtailSamples

/-- The fields of a SETUP frame as carried (Table 11-3). -/
def setupOfParams (ps : List Byte) : Setup :=
  { branch := param1 ps 0
    branchLimit := param2 ps 1
    feederLimit := param2 ps 3
    curtailLimit := param2 ps 5
    chargerRating := param2 ps 7
    rampStep := param1 ps 9
    prechargeRounds := param1 ps 10
    openThreshold := param1 ps 11
    adoptionReserve := param2 ps 12
    curtailSamples := param1 ps 14 }

/-- The fields of a SETUP clamped to their ranges (R178). -/
def clampSetup (c : Setup) : Setup :=
  { branch := c.branch
    branchLimit := clampTo 0 4000 c.branchLimit
    feederLimit := clampTo 0 16000 c.feederLimit
    curtailLimit := clampTo 0 16000 c.curtailLimit
    chargerRating := clampTo 50 1000 c.chargerRating
    rampStep := clampTo 1 50 c.rampStep
    prechargeRounds := clampTo 5 50 c.prechargeRounds
    openThreshold := clampTo 1 20 c.openThreshold
    adoptionReserve := clampTo 10 1000 c.adoptionReserve
    curtailSamples := clampTo 3 15 c.curtailSamples }

/-- The clamp mask of a SETUP: bits 0 to 8 name the fields that were moved into range
(11, section 11.2). -/
def setupClampMask (asked set : Setup) : Nat :=
  flagBit 0 (asked.branchLimit != set.branchLimit) + flagBit 1 (asked.feederLimit != set.feederLimit)
    + flagBit 2 (asked.curtailLimit != set.curtailLimit)
    + flagBit 3 (asked.chargerRating != set.chargerRating) + flagBit 4 (asked.rampStep != set.rampStep)
    + flagBit 5 (asked.prechargeRounds != set.prechargeRounds)
    + flagBit 6 (asked.openThreshold != set.openThreshold)
    + flagBit 7 (asked.adoptionReserve != set.adoptionReserve)
    + flagBit 8 (asked.curtailSamples != set.curtailSamples)

/-- The response to a command that clamps: CLAMPED with its mask before the data where the mask names a
field, DONE otherwise (11, section 11.2). -/
def clampedResponse (mask : Nat) (data : List Byte) : List Byte :=
  if mask = 0 then responseFrame rspDone data else responseFrame rspClamped (byte2 mask ++ data)

/-- The data of DOCK and UPDATE VEHICLE: the session state and the record, zeros where there is none
(Table 11-5). -/
def recordBytes (st : SessionState) : Option Record → List Byte
  | none => byte1 (sessionCode st) ++ List.replicate 16 0
  | some r =>
    byte1 (sessionCode st) ++ byte4 r.vehicle.toNat
      ++ byte1 (flagBit 0 r.floor.isSome + flagBit 1 r.departure.isSome + flagBit 2 r.vehicleClass.isSome)
      ++ byte2 r.maxAccept ++ byte2 (r.floor.getD 0) ++ byte2 r.energyNeeded
      ++ byte2 (r.departure.getD 0) ++ byte1 ((r.vehicleClass.map classCode).getD 0) ++ byte2 r.delivered

/-- A notice record (Table 11-7). -/
def noticeBytes (n : Notice) : List Byte :=
  byte1 (noticeCode n.kind) ++ byte1 (flagBit 0 n.pad.isSome + flagBit 1 n.value.isSome)
    ++ byte2 n.stamp.toNat ++ byte1 (n.pad.getD 0) ++ byte4 (n.value.getD 0)

/-- The 22 bytes of a claim's content (R192). -/
def claimBytes (c : Claim) : List Byte := bytesOfBits 22 (claimBits c)

/-- The view record of an entry (Table 11-6). -/
def entryRecord (pad : Nat) (e : Entry) : List Byte :=
  byte1 pad ++ byte1 (entryCode e.state)
    ++ byte1 (flagBit 0 e.claim.isSome + flagBit 1 e.age.isSome + flagBit 2 e.reserve.isSome
        + flagBit 3 e.expected.isSome + flagBit 4 e.heard + flagBit 5 e.mismatch)
    ++ ((e.claim.map claimBytes).getD (List.replicate 22 0)) ++ byte1 (e.age.getD 0)
    ++ byte2 (e.reserve.getD 0) ++ byte2 (e.expected.getD 0)

/-- The SELF record (R73, Table 11-6): the last sent claim, its pad field replaced by the own pad. -/
def selfRecord (pad : Nat) (sent : Claim) : List Byte :=
  byte1 pad ++ byte1 5 ++ byte1 1 ++ claimBytes { sent with pad := pad } ++ byte1 0 ++ byte2 0 ++ byte2 0

/-- The ranges of a RELEASE HELD frame: first pad and pad count (Table 11-3). -/
def rangesOfParams (ps : List Byte) : List (Nat × Nat) :=
  (List.range (param1 ps 0)).map fun i => (param1 ps (1 + 2 * i), param1 ps (2 + 2 * i))

end Sys2Proof.Machine
end

