-- ==== Sys2Proof/Machine/Flags.lean ====
section
/-! DEFINITION. The conditions that the meanings read: what is configured, what is due, and when the
slot clock may go on (log entry 3); and the levels of the output pins. -/

namespace Sys2Proof.Machine

/-- SETUP has been accepted since power-on (R39, R178). -/
def State.configured (s : State) : Bool := s.standing.state != .unconfigured

/-- The standings that transmit (03, introduction). -/
def Standing.transmitting : Standing → Bool
  | .active => true
  | .backoff => true
  | .isolated => true
  | _ => false

/-- A round is running (Table 2-1, R34). -/
def Timer.roundRunning (t : Timer) : Bool :=
  match t.mode with
  | .running => true
  | .realign => !t.inGap
  | .halted => false
  | .search => false

/-- The qualified dock level (R157). -/
def State.docked (s : State) : Bool := s.qual.dock.level

/-- The qualified feedback state of a contactor, closed = true (R140). -/
def State.feedback (s : State) : Contactor → Bool
  | .pre => s.qual.preFb.level
  | .main => s.qual.mainFb.level

/-- The run of a contactor's feedback input (R140). -/
def State.feedbackRun (s : State) : Contactor → Nat
  | .pre => s.qual.preFb.run
  | .main => s.qual.mainFb.run

/-- The samples that qualify a feedback input (R140) and the dock input (R157). -/
def feedbackSamples : Nat := 8
def dockSamples : Nat := 16

/-- The run of CURT has reached Q (R83); not before SETUP, which gives Q. -/
def State.curtailChangeDue (s : State) : Bool :=
  s.configured && decide (0 < s.qual.curtail.run) && decide (s.cfg.curtailSamples ≤ s.qual.curtail.run)

/-- The run of a feedback input has reached eight (R140). -/
def State.feedbackChangeDue (s : State) (c : Contactor) : Bool :=
  decide (feedbackSamples ≤ s.feedbackRun c)

/-- The run of DOCK_SNS has reached sixteen (R157). -/
def State.dockChangeDue (s : State) : Bool := decide (dockSamples ≤ s.qual.dock.run)

/-- A confirm count has reached 5 (R141). -/
def Confirm.expired : Confirm → Bool
  | .awaiting n => decide (5 ≤ n)
  | .agreed => false
  | .failed => false

/-- The silence fallback falls at the boundary just taken: 80 slot periods of REALIGN without a valid
claim (R35). -/
def Timer.fallbackDue (t : Timer) : Bool :=
  t.mode == .realign && !t.inGap && t.slot.isNone && t.target.isNone
    && decide (Config.silencePeriods ≤ t.silence)

/-- The instant at which SEARCH ends by silence (R32). -/
def Timer.searchExpiry (t : Timer) : Int :=
  t.searchStart + (Config.silencePeriods * Config.slotUnits : Nat)

/-- SEARCH's 80 slot periods end no later than the next period start (R32). -/
def Timer.searchExpired (t : Timer) : Bool :=
  t.mode == .search && decide (t.searchExpiry ≤ t.nextPeriod)

/-- The target round start falls no later than the next period start of the realignment gap (R34). -/
def Timer.targetReached (t : Timer) : Bool :=
  t.mode == .realign && t.inGap && match t.target with
    | some r => decide (r ≤ t.nextPeriod)
    | none => false

/-- A step that the last round boundary made due has not been taken (log entry 3). -/
def State.boundaryFollowUpDue (s : State) : Bool :=
  s.due.tick || s.due.resync || s.due.overdraw.isSome || s.due.reportLost.isSome
    || s.timer.fallbackDue || s.seq.preConfirm.expired || s.seq.mainConfirm.expired

/-- A named point of the slot period in progress has not been taken (R20 to R22, R128). -/
def State.pointDue (s : State) : Bool :=
  s.due.ownSlot || s.due.compute || s.due.apply || s.due.switchWindow || s.due.sweepPoint
    || s.due.spchgEnd

/-- A qualified change has not been taken (R83, R140, R157). -/
def State.qualifiedChangeDue (s : State) : Bool :=
  s.curtailChangeDue || s.feedbackChangeDue .pre || s.feedbackChangeDue .main || s.dockChangeDue

/-- The access holds the store or waits for it (R68). -/
def Store.outstanding (st : Store) (a : Access) : Bool := st.grant == some a || st.waiting.contains a

/-- Work that the spec ends within the slot period in progress is still open: an own frame (R3), in slot
period 36 the computation, the decision and the expected-commit write (R21, R95, R110, R138), in slot
period 39 the sweep (R69). -/
def State.slotWorkOpen (s : State) : Bool :=
  s.line.txActive
    || (s.timer.slot == some 36
      && (s.share.phase != .none || s.turn.deciding || s.store.outstanding .expectedWrite))
    || (s.timer.slot == some 39 && s.store.outstanding .sweep)

/-- The slot period in progress may end: nothing is due and no work of it is open (log entry 3). -/
def State.timeMayPass (s : State) : Bool :=
  !s.pointDue && !s.qualifiedChangeDue && !s.boundaryFollowUpDue && !s.slotWorkOpen

/-- Events are being held for a turn decision: the decision is outstanding and the own station is a candidate, as
fixed at the compute point (R138). DEDUCED (log entry 43): this holds whatever the session state has become
meanwhile, after a conflict or a contactor fault too, although R161's table names the holding in INTENT only. -/
def State.holdsEvents (s : State) : Bool := s.turn.deciding && s.turn.ownCandidate.isSome

/-- The session states in which the zero demand is presented (R121). -/
def SessionState.zeroDemand : SessionState → Bool
  | .stopping => true
  | .fault => true
  | _ => false

/-- The session states in which END is accepted (R160), and UPDATE VEHICLE (R156). -/
def SessionState.charging : SessionState → Bool
  | .intent => true
  | .precharge => true
  | .connected => true
  | _ => false

/-- The session states in which PORT RESET is accepted (R187). -/
def SessionState.resettable : SessionState → Bool
  | .vacant => true
  | .docked => true
  | .intent => true
  | .released => true
  | _ => false

/-- A frame with this command code is complete and not yet taken (R175, R176). -/
def State.frameReady (s : State) (code : Byte) : Bool :=
  match s.port.ready with
  | some (c :: _) => c == code
  | _ => false

/-- What the line interface sends on PL_TXD: during an own frame the preamble and the 192 data bits of the
pending half, in 200 cells (R3, R17); its level otherwise. -/
def Line.sends (l : Line) : TxdPin := if l.txActive then .frame (frameCells l.pending) else .level l.txd

/-- The byte that the port sends next (Table 10-1): none in CLOSED, 00H in COMMAND and while the command is
carried out, then the response from its read position, then FFH. -/
def Port.nextByte (p : Port) : Option Byte :=
  match p.txn with
  | .closed => none
  | .command => some 0
  | .execute =>
    match p.response with
    | some r => some (r.getD 0 0xFF)
    | none => some 0
  | .response => some ((p.response.getD []).getD p.readPos 0xFF)
  | .spent => some 0xFF

/-- The level of CP_DOUT between bytes (R174): the first bit of the next byte, driven from the assertion of
CP_SEL or from the falling edge that ends the byte before; none is high-impedance. DESIGN CHOICE (log entry 30):
where a response becomes ready between bytes, its first bit is driven from that instant. -/
def Port.doutLevel (p : Port) : Option Bool := p.nextByte.map fun b => b.getLsbD 7

/-- The bits on CP_DOUT in the eight clocks of the last byte, most significant first (R174). -/
def Port.doutBits (p : Port) : List Bool :=
  match p.dout with
  | some b => (List.range 8).map fun i => b.getLsbD (7 - i)
  | none => []

/-- The levels of the output pins (Table 11-8, R3, R128, R140, R174, R189, R193). -/
def State.outputs (s : State) : OutputPins :=
  { plTxd := s.line.sends
    plDe := s.line.txActive
    cpDout := s.port.doutLevel
    cpDoutBits := s.port.doutBits
    attn := !s.notices.attn
    spchg := s.applyUnit.spchg
    preDrv := s.seq.preDrive
    mainDrv := s.seq.mainDrive }

end Sys2Proof.Machine
end

