-- ==== Sys2Proof/Machine/Ops.lean ====
section
/-! DEFINITION. The operations that meanings share, each a record update of the blocks it writes. -/

namespace Sys2Proof.Machine

/-- A command takes effect when the part raises it: power-on reset is not held and the step's condition
holds. Otherwise nothing happens (log entry 1). -/
def State.act (s : State) (raised : Bool) (effect : State → State) : Host.Outcome State Fault Refusal :=
  .next (if !s.resetHeld && raised then effect s else s)

/-! ### Notices (R188, R189) -/

/-- A notice joins the queue, or is dropped with the lost-notice flag set when the queue is full. -/
def NoticeQueue.push (q : NoticeQueue) (n : Notice) : NoticeQueue :=
  if q.queue.length < Config.maxNotices then
    { queue := q.queue ++ [n], lost := q.lost, attn := true }
  else { q with lost := true }

/-- Raise a notice, stamped with the round counter of this instant (R188). -/
def State.raise (s : State) (kind : NoticeKind) (pad value : Option Nat) : State :=
  { s with notices := s.notices.push { kind, stamp := s.timer.roundCounter, pad, value } }

/-! ### View store arbiter (R68, R70) -/

/-- The waiting request that the arbiter grants next: the frame receiver and the snapshot by their order
of arrival, which is R70 (the receiver's request waits behind a snapshot only if it was raised after the
compute point); then the expected-commit write, the sweep, the charger port. -/
def nextAccess (waiting : List Access) : Option Access :=
  match waiting.find? (fun a => a == .claimWrite || a == .snapshot) with
  | some a => some a
  | none =>
    if waiting.contains .expectedWrite then some .expectedWrite
    else if waiting.contains .sweep then some .sweep
    else waiting.head?

/-- A request: granted at once while the store is free, otherwise it waits (R68). -/
def Store.request (st : Store) (a : Access) : Store :=
  match st.grant with
  | none => { st with grant := some a }
  | some _ => { st with waiting := st.waiting ++ [a] }

/-- The grant ends, and the arbiter grants the waiting request whose turn it is (R68). -/
def Store.release (st : Store) : Store :=
  match nextAccess st.waiting with
  | some a => { grant := some a, waiting := st.waiting.erase a }
  | none => { grant := none, waiting := [] }

/-- PORT RESET withdraws a snapshot request and a sweep request that are still waiting (R68). -/
def Store.withdraw (st : Store) : Store :=
  { st with waiting := st.waiting.filter fun a => a != .snapshot && a != .sweep }

/-! ### The view table (R55 to R57) -/

/-- The held set: the pads whose entries are HELD (R57). -/
def heldOf (entries : List Entry) : PadMask :=
  BitVec.ofNat 36
    (natOfBits ((List.range Config.pads).reverse.map fun p => (entries.getD p Entry.blank).state == .held))

/-- The number of entries in a state (R57). -/
def countOf (entries : List Entry) (st : EntryState) : Nat := entries.countP fun e => e.state == st

/-- The table after an access, with the held set and the counts brought up to date in it (R57). -/
def View.withEntries (v : View) (entries : List Entry) : View :=
  { v with
    entries := entries
    held := heldOf entries
    liveCount := countOf entries .live
    staleCount := countOf entries .stale
    heldCount := countOf entries .held
    adoptedCount := countOf entries .adopted }

/-- The entry of a pad. -/
def View.entry (v : View) (pad : Nat) : Entry := v.entries.getD pad Entry.blank

/-! ### Contactor sequencer (08) -/

/-- The drive of a contactor. -/
def Seq.drive (q : Seq) : Contactor → Bool
  | .pre => q.preDrive
  | .main => q.mainDrive

/-- The confirm state of a contactor. -/
def Seq.confirm (q : Seq) : Contactor → Confirm
  | .pre => q.preConfirm
  | .main => q.mainConfirm

/-- Set the confirm state of a contactor. -/
def Seq.setConfirm (q : Seq) (c : Contactor) (v : Confirm) : Seq :=
  match c with
  | .pre => { q with preConfirm := v }
  | .main => { q with mainConfirm := v }

/-- The confirm state right after a drive change: AGREED if the feedback already matches (R141). -/
def confirmAfterChange (on feedback : Bool) : Confirm := if feedback = on then .agreed else .awaiting 0

/-- The open mode asked for (R147): NORMAL only from NONE, FORCED always; not kept while the phase is
IDLE and no drive is on. -/
def Seq.requestOpen (q : Seq) (m : OpenMode) : Seq :=
  { q with
    openMode :=
      if q.phase = .idle ∧ q.preDrive = false ∧ q.mainDrive = false then q.openMode
      else if m = .normal ∧ q.openMode ≠ .none then q.openMode
      else m }

/-- Entry into FAULTED: the drives are left as they are and the open mode is FORCED (R150). -/
def Seq.enterFaulted (q : Seq) : Seq := { q with phase := .faulted, openMode := .forced }

/-- The phase returns to IDLE, and the open mode becomes NONE (R147). -/
def Seq.enterIdle (q : Seq) : Seq := { q with phase := .idle, openMode := .none }

/-! ### Session controller (09) -/

/-- A change of session state: the SESSION notice (R164), and what goes with the state: the intent age is
0 on entry into INTENT (R134, R158), the overdraw run is 0 outside CONNECTED (R168), held events are
discarded on entry into FAULT (R163), and a stop that a boundary made due lapses outside CONNECTED
(R169, log entry 26). A state that does not change raises no SESSION notice. -/
def State.setSession (s : State) (new : SessionState) (cause : Cause) : State :=
  { s with
    session :=
      { s.session with
        state := new
        overdrawRun := if new = .connected then s.session.overdrawRun else 0
        held := if new = .fault ∧ s.session.state ≠ .fault then [] else s.session.held }
    turn :=
      { s.turn with
        intentAge := if new = .intent ∧ s.session.state ≠ .intent then 0 else s.turn.intentAge }
    due :=
      { s.due with
        overdraw := if new = .connected then s.due.overdraw else none
        reportLost := if new = .connected then s.due.reportLost else none }
    notices :=
      if s.session.state = new then s.notices
      else s.notices.push
        { kind := .session, stamp := s.timer.roundCounter, pad := none,
          value := some (sessionNoticeValue new cause) } }

/-- Ask the sequencer to open (R147). -/
def State.requestOpen (s : State) (m : OpenMode) : State := { s with seq := s.seq.requestOpen m }

/-- The state that follows a stop: RELEASED while the dock level is asserted, VACANT otherwise
(R159, R163). -/
def State.restState (s : State) : SessionState := if s.docked then .released else .vacant

/-- The signal contactors open: the session leaves STOPPING (R159). -/
def State.contactorsOpen (s : State) : State :=
  s.setSession (if s.session.state = .stopping then s.restState else s.session.state) .opened

/-- The state to which an END takes the session (R160). -/
def endTarget : SessionState → SessionState
  | .intent => .released
  | .precharge => .stopping
  | .connected => .stopping
  | st => st

/-- The state to which a dock loss takes the session (R161). -/
def dockLossTarget : SessionState → SessionState
  | .docked => .vacant
  | .intent => .vacant
  | .precharge => .stopping
  | .connected => .stopping
  | .released => .vacant
  | st => st

/-- The state to which the signal conflict takes the session (R162). -/
def conflictTarget : SessionState → SessionState
  | .intent => .released
  | .precharge => .stopping
  | .connected => .stopping
  | st => st

/-- END acts on the session; in PRECHARGE and CONNECTED with the open mode NORMAL (R160, R147). -/
def State.takeEnd (s : State) : State :=
  let stops := endTarget s.session.state = .stopping ∧ s.session.state ≠ .stopping
  { s.setSession (endTarget s.session.state) .endCommand with
    seq := if stops then s.seq.requestOpen .normal else s.seq }

/-- The value of DOCK_LOST: the delivered energy, and a free value while there is no record
(R161, log entry 12). -/
def State.dockLostValue (s : State) : Nat :=
  match s.session.record with
  | some r => r.delivered
  | none => (Config.deliveredWithoutRecord s.free).toNat

/-- A dock loss is taken: DOCK_LOST, then the session by its state, with the open mode FORCED where it
stops or is stopping (R161, R147, R164). -/
def State.takeDockLoss (s : State) : State :=
  let opens := dockLossTarget s.session.state = .stopping
  let s1 := (s.raise .dockLost none (some s.dockLostValue)).setSession
    (dockLossTarget s.session.state) .dockLost
  { s1 with
    seq := if opens then s.seq.requestOpen .forced else s.seq
    free := s.free + 1 }

/-- A conflict or a contactor fault is taken between a compute point and its turn decision: the decision hands
no turn over, whatever the session does until then (R138). -/
def Turn.bar (p : Turn) : Turn := { p with barred := p.barred || p.deciding }

/-- The signal conflict reaches the session controller and the sequencer (R51, R147, R162), and bars a turn
decision that is outstanding (R138). -/
def State.signalConflict (s : State) : State :=
  let s1 := s.setSession (conflictTarget s.session.state) .conflict
  { s1 with seq := s.seq.requestOpen .forced, turn := s1.turn.bar }

/-- A contactor fault (R142): the contactor is FAILED, the notice is raised, the session enters FAULT,
and the sequencer enters FAULTED (R150, R163). A turn decision that is outstanding is barred (R138). -/
def State.contactorFault (s : State) (c : Contactor) (code : Nat) : State :=
  let s1 := (s.raise .contactorFault none (some code)).setSession .fault .contactorFault
  { s1 with seq := (s.seq.setConfirm c .failed).enterFaulted, turn := s1.turn.bar }

/-! ### Standing controller (03) -/

/-- The standing with the counts and the marker at rest. -/
def StandingCtl.enter (st : StandingCtl) (new : Standing) : StandingCtl :=
  { st with state := new, failures := 0, backoff := 0, goodRun := 0, occupant := none }

/-- Entry into LISTEN clears the occupancy marker (R42). -/
def StandingCtl.enterListen (st : StandingCtl) : StandingCtl :=
  { st with state := .listen, occupant := none }

/-- Entry into CONFLICT (R51): the notice with the identity that caused it, then the signal conflict. -/
def State.enterConflict (s : State) (foreign : Identity) : State :=
  let s1 := { s with standing := s.standing.enter .conflict }
  (s1.raise .conflict s.standing.pad (some foreign.toNat)).signalConflict

/-- Entry into RESYNC (R50), with which the round timer enters REALIGN at the same boundary (R34). -/
def State.enterResync (s : State) : State :=
  let s1 := { s with
    standing := s.standing.enter .resync
    timer := { s.timer with mode := .realign, misaligned := 0, silence := 0, target := none } }
  s1.raise .resync s.standing.pad none

/-! ### Charger port (10) -/

/-- A response is ready for the transaction in EXECUTE; where the transaction has closed it is lost
(R176). -/
def State.respond (s : State) (frame : List Byte) : State :=
  { s with
    port :=
      { s.port with
        response := if s.port.txn = .execute then some frame else s.port.response
        readPos := if s.port.txn = .execute then 0 else s.port.readPos } }

/-- The refusals carry length 0 (11, section 11.2). -/
def State.refuse (s : State) (code : Byte) : State := s.respond (responseFrame code [])

/-- A waiting command has been carried out: its response is ready, or lost with its transaction
(R176). -/
def State.answerWaiting (s : State) (frame : List Byte) : State :=
  let keep := match s.port.waiting with
    | some w => !w.responseLost
    | none => false
  { s with
    port :=
      { s.port with
        waiting := none
        response := if keep then some frame else s.port.response
        readPos := if keep then 0 else s.port.readPos } }

/-- A command begins to wait in EXECUTE (R176). -/
def State.wait (s : State) (c : WaitingCommand) : State :=
  { s with
    port :=
      { s.port with
        waiting := some { command := c, responseLost := s.port.txn != .execute } } }

/-- A complete frame is checked in the order of R177 and then carried out: busy port, code and length,
configuration; the command's own parameter and state checks are in `run`. -/
def State.takeFrame (s : State) (lengthOk : List Byte → Bool) (needsSetup : Bool)
    (run : List Byte → State → State) : State :=
  match s.port.ready with
  | none => s
  | some frame =>
    let s1 := { s with port := { s.port with ready := none } }
    let ps := frame.drop 2
    if s.port.waiting.isSome then s1.refuse rspRefusedState
    else if !lengthOk ps then s1.refuse rspRefusedFormat
    else if needsSetup && !s.configured then s1.refuse rspRefusedState
    else run ps s1

/-- The parameters have the length that the layout gives (Table 11-3). -/
def lengthIs (n : Nat) (ps : List Byte) : Bool := decide (ps.length = n)

end Sys2Proof.Machine
end

