-- ==== Sys2Proof/Machine/ViewStore.lean ====
section
/-! DEFINITION. The view store (Chapter 4): receipts, the sweep, expected commits, and the charger port's
accesses. -/

namespace Sys2Proof.Machine

/-- The view table after an access, and the end of its grant (R57, R68). -/
def State.endAccess (s : State) (entries : List Entry) : State :=
  { s with view := s.view.withEntries entries, store := s.store.release }

/-- The access holds the store. -/
def State.granted (s : State) (a : Access) : Bool := s.store.grant == some a

/-- The power that a claim's pad may draw: max(draw, commit) (R65, R89). -/
def Claim.load (c : Claim) : Nat := max c.draw c.commit

/-! ### CLAIM_FILED (R58 to R60) -/

/-- The mismatch excess that a receipt finds: the heard commit above the expected commit (R60). -/
def Entry.excessOf (e : Entry) (c : Claim) : Option Nat :=
  match e.expected with
  | some x => if x < c.commit then some (c.commit - x) else none
  | none => none

/-- The entry after a receipt (R58, R60). -/
def Entry.receive (e : Entry) (c : Claim) : Entry :=
  { state := .live, claim := some c, heard := true, age := some 0, reserve := none,
    expected := e.expected, mismatch := (e.excessOf c).isSome, excess := e.excessOf c }

/-- HELD_CLEARED at a receipt on a HELD or ADOPTED entry (R59). -/
def State.noteHeldCleared (s : State) (pad : Nat) (e : Entry) : State :=
  if e.state = .held ∨ e.state = .adopted then s.raise .heldCleared (some pad) (some (e.reserve.getD 0))
  else s

/-- IDENTITY_CHANGED at a receipt whose identity differs from the stored one (R59). -/
def State.noteIdentity (s : State) (pad : Nat) (e : Entry) (c : Claim) : State :=
  match e.claim with
  | some old =>
    if (e.state = .live ∨ e.state = .stale ∨ e.state = .held) ∧ old.identity ≠ c.identity then
      s.raise .identityChanged (some pad) (some c.identity.toNat)
    else s
  | none => s

/-- VIEW_MISMATCH where the receipt finds an excess and the flag was clear (R60). -/
def State.noteMismatch (s : State) (pad : Nat) (e : Entry) (c : Claim) : State :=
  match e.excessOf c with
  | some x => if e.mismatch then s else s.raise .viewMismatch (some pad) (some x)
  | none => s

/-- A claim is filed in the entry of the pad it carries; the notices in the order of R59 and R60. -/
def State.fileClaim (s : State) (c : Claim) : State :=
  let e := s.view.entry c.pad
  let s1 := ((s.noteHeldCleared c.pad e).noteIdentity c.pad e c).noteMismatch c.pad e c
  { s1.endAccess (s.view.entries.set c.pad (e.receive c)) with
    line := { s.line with register := none } }

/-- CLAIM_FILED: on its grant the frame receiver files the claim of the receive register (R8, R58). -/
def execClaimFiled (s : State) : Host.Outcome State Fault Refusal :=
  s.act (s.granted .claimWrite) fun s =>
    match s.line.register with
    | some c => s.fileClaim c
    | none => { s with store := s.store.release }

/-! ### The sweep (R61 to R65) -/

/-- One entry at the sweep, before adoption (R61). -/
def Entry.aged (e : Entry) : Entry :=
  let age := e.age.getD 0
  match e.state with
  | .live =>
    if e.heard then { e with heard := false, age := some 0, reserve := e.claim.map Claim.load }
    else { e with age := some (age + 1), state := if age + 1 < 3 then .live else .stale }
  | .stale =>
    if age + 1 < 12 then { e with age := some (age + 1) }
    else if 1 ≤ e.reserve.getD 0 then { e with age := some (age + 1), state := .held }
    else Entry.blank
  | .held => { e with age := some (min 255 (age + 1)) }
  | .empty => e
  | .adopted => e

/-- Some entry that is LIVE after the aging names the pad in its held mask (R63). -/
def namedInMask (entries : List Entry) (pad : Nat) : Bool :=
  entries.any fun e => e.state == .live && match e.claim with
    | some c => c.heldMask.getLsbD pad
    | none => false

/-- An ADOPTED entry (R63, R65). -/
def Entry.adoptedWith (reserve : Nat) : Entry :=
  { Entry.blank with state := .adopted, reserve := some reserve }

/-- One entry at the adoption step (R63). -/
def Entry.adopt (e : Entry) (named : Bool) (reserve : Nat) : Entry :=
  match e.state with
  | .adopted => if named then e else Entry.blank
  | .empty => if named then Entry.adoptedWith reserve else e
  | .live => e
  | .stale => e
  | .held => e

/-- The mismatch excess becomes absent at the end of the sweep (R64). -/
def Entry.excessRemoved (e : Entry) : Entry := { e with excess := none }

/-- The entry after the sweep, given the table after its aging; the own entry is passed over
(R61, R63, R64). -/
def sweptEntry (own : Option Nat) (reserve : Nat) (aged : List Entry) (pad : Nat) (e : Entry) : Entry :=
  if some pad = own then e else (e.adopt (namedInMask aged pad) reserve).excessRemoved

/-- The table after the aging; the own entry is skipped (R61). -/
def agedEntries (own : Option Nat) (entries : List Entry) : List Entry :=
  entries.mapIdx fun pad e => if some pad = own then e else e.aged

/-- The table after the whole sweep. -/
def sweptEntries (own : Option Nat) (reserve : Nat) (entries : List Entry) : List Entry :=
  (agedEntries own entries).mapIdx (sweptEntry own reserve (agedEntries own entries))

/-- The pads that become HELD at this sweep, in ascending order (R61). -/
def newlyHeld (own : Option Nat) (entries : List Entry) : List Nat :=
  (List.range entries.length).filter fun p =>
    (entries.getD p Entry.blank).state == .stale
      && ((agedEntries own entries).getD p Entry.blank).state == .held

/-- HELD_SET for each pad, with its reserve (R61). -/
def State.noteHeldSet (s : State) (entries : List Entry) (pads : List Nat) : State :=
  pads.foldl
    (fun s p => s.raise .heldSet (some p) (some ((entries.getD p Entry.blank).reserve.getD 0))) s

/-- SWEEP_POINT (R22): the sweep is raised and requests the view store. -/
def execSweepPoint (s : State) : Host.Outcome State Fault Refusal :=
  s.act s.due.sweepPoint fun s =>
    { s with due := { s.due with sweepPoint := false }, store := s.store.request .sweep }

/-- SWEEP (R61, R63, R64). -/
def execSweep (s : State) : Host.Outcome State Fault Refusal :=
  s.act (s.granted .sweep) fun s =>
    (s.noteHeldSet s.view.entries (newlyHeld s.standing.pad s.view.entries)).endAccess
      (sweptEntries s.standing.pad s.cfg.adoptionReserve s.view.entries)

/-! ### EXPECTED_COMMIT_WRITE (R66) -/

/-- The share of a pad in a result table, if the pad was a participant. -/
def shareOf (rows : List ResultRow) (pad : Nat) : Option Nat :=
  (rows.find? fun r => r.pad == pad).map ResultRow.share

/-- The table after the expected-commit write; the own entry stays EMPTY (R55, R66). -/
def withExpected (own : Option Nat) (rows : List ResultRow) (entries : List Entry) : List Entry :=
  entries.mapIdx fun pad e => if some pad = own then e else { e with expected := shareOf rows pad }

/-- EXPECTED_COMMIT_WRITE: the shares of the last completion (R66). -/
def execExpectedCommitWrite (s : State) : Host.Outcome State Fault Refusal :=
  s.act (s.granted .expectedWrite) fun s =>
    s.endAccess (withExpected s.standing.pad s.share.published.rows s.view.entries)

/-! ### READ VIEW (R72, R73) -/

/-- The record of a pad: SELF for the own pad (R73), the entry's otherwise. -/
def State.viewRecord (s : State) (pad : Nat) : List Byte :=
  if some pad = s.standing.pad then selfRecord pad s.line.sent.claim
  else entryRecord pad (s.view.entry pad)

/-- The entry is passed over without a record: EMPTY, not the own one, with the skip-empty flag (R72). -/
def State.passedOver (s : State) (skipEmpty : Bool) (pad : Nat) : Bool :=
  skipEmpty && some pad != s.standing.pad && (s.view.entry pad).state == .empty

/-- The walk of READ VIEW (R72): from a position upward, wrapping from 35 to 0, until the count of records
is returned or no entry is left to examine. Answers the pads returned and the pad after the last one
examined. -/
def State.examine (s : State) (skipEmpty : Bool) : (left count pos : Nat) → List Nat × Nat
  | 0, _, pos => ([], pos)
  | _ + 1, 0, pos => ([], pos)
  | left + 1, count + 1, pos =>
    let next := (pos + 1) % Config.pads
    if s.passedOver skipEmpty pos then s.examine skipEmpty left (count + 1) next
    else
      let (pads, last) := s.examine skipEmpty left count next
      (pos :: pads, last)

/-- The response of a READ VIEW: the record count, then the records (Table 11-5). -/
def State.viewResponse (s : State) (pads : List Nat) : List Byte :=
  responseFrame rspDone (byte1 pads.length ++ pads.flatMap s.viewRecord)

/-- READ_VIEW_ACCESS: on its grant the records are copied and the cursor moves (R72, R184). -/
def execReadViewAccess (s : State) : Host.Outcome State Fault Refusal :=
  s.act (s.granted .readView) fun s =>
    match s.port.waiting with
    | some { command := .readView start count skipEmpty, .. } =>
      let walk := s.examine skipEmpty Config.pads count (start.getD s.view.cursor)
      { s with
        view := { s.view with cursor := walk.2 }
        store := s.store.release }.answerWaiting (s.viewResponse walk.1)
    | _ => { s with store := s.store.release }

/-! ### RELEASE HELD (R74) -/

/-- What a RELEASE HELD has done so far: the state, the released count, and the pad that stopped it. -/
structure Release where
  state : State
  released : Nat
  stoppedAt : Option Nat

/-- A HELD or ADOPTED entry is released: it becomes EMPTY with HELD_CLEARED (R74). -/
def Release.clear (r : Release) (pad : Nat) (e : Entry) : Release :=
  let s1 := r.state.raise .heldCleared (some pad) (some (e.reserve.getD 0))
  { r with
    state := { s1 with view := s1.view.withEntries (s1.view.entries.set pad Entry.blank) }
    released := r.released + 1 }

/-- One pad of a range (R74): the own entry and EMPTY ones are skipped, HELD and ADOPTED ones released, a
LIVE or STALE one stops the command. After a stop nothing more is done. -/
def Release.act (r : Release) (pad : Nat) : Release :=
  if r.stoppedAt.isSome || some pad == r.state.standing.pad then r
  else
    let e := r.state.view.entry pad
    match e.state with
    | .held => r.clear pad e
    | .adopted => r.clear pad e
    | .empty => r
    | .live => { r with stoppedAt := some pad }
    | .stale => { r with stoppedAt := some pad }

/-- The pads that a list of ranges names, in the order in which they are taken: pads beyond 35 are ignored
and a range does not wrap (R74). -/
def padsOfRanges (ranges : List (Nat × Nat)) : List Nat :=
  ranges.flatMap fun r => ((List.range r.2).map (r.1 + ·)).filter (· < Config.pads)

/-- The whole RELEASE HELD. -/
def State.releaseRanges (s : State) (ranges : List (Nat × Nat)) : Release :=
  (padsOfRanges ranges).foldl Release.act { state := s, released := 0, stoppedAt := none }

/-- The response of a RELEASE HELD (R185, Table 11-5). -/
def Release.response (r : Release) : List Byte :=
  match r.stoppedAt with
  | some pad => responseFrame rspStopped (byte1 pad ++ byte1 r.released)
  | none => responseFrame rspDone (byte1 r.released)

/-- RELEASE_HELD_ACCESS: on its grant the ranges are released (R74, R185). -/
def execReleaseHeldAccess (s : State) : Host.Outcome State Fault Refusal :=
  s.act (s.granted .releaseHeld) fun s =>
    match s.port.waiting with
    | some { command := .releaseHeld ranges, .. } =>
      let r := s.releaseRanges ranges
      { r.state with store := s.store.release }.answerWaiting r.response
    | _ => { s with store := s.store.release }

/-! ### PORT RESET's view part (R78) -/

/-- An entry at PORT RESET (R78): LIVE, STALE and ADOPTED become EMPTY; HELD is kept without its expected
commit, mismatch flag and excess. -/
def Entry.portReset (e : Entry) : Entry :=
  match e.state with
  | .held => { e with expected := none, mismatch := false, excess := none }
  | .empty => Entry.blank
  | .live => Entry.blank
  | .stale => Entry.blank
  | .adopted => Entry.blank

/-- PORT_RESET_VIEW_ACCESS: on its grant the view is reset and the command is answered (R78, R187). -/
def execPortResetViewAccess (s : State) : Host.Outcome State Fault Refusal :=
  s.act (s.granted .portResetView) fun s =>
    let s1 := s.endAccess (s.view.entries.map Entry.portReset)
    { s1 with view := { s1.view with cursor := 0 } }.answerWaiting (responseFrame rspDone [])

end Sys2Proof.Machine
end

