-- ==== Sys2Proof/Machine/Limits.lean ====
section
/-! DEFINITION. The compute point, the snapshot, and the limit unit (Chapter 5; R21, R67, R80 to R92,
R135). -/

namespace Sys2Proof.Machine

/-! ### COMPUTE_POINT -/

/-- The own curtail state of a compute point (R85): its clauses (a), (b) and (c). -/
def State.ownCurtailNow (s : State) : Bool :=
  s.qual.curtail.level || s.limit.assertionSeen || (s.limit.ownCurtail && s.limit.levelSeen)

/-- The own candidate as the compute point fixes it (R135). -/
def State.ownCandidateNow (s : State) : Option Candidate :=
  if s.session.state = .intent ∧ s.standing.state = .active ∧ s.line.echo = .good
      ∧ s.line.sent.claim.intent = .connect then
    some { pad := s.standing.pad.getD 0, branch := s.cfg.branch, age := s.line.sent.claim.intentAge }
  else none

/-- COMPUTE_POINT (R21): the own curtail state is worked out and the curtail memory renewed (R84, R85), the
own-turn flag and the walk of the round before are cleared (R137), the own candidacy is fixed (R138), and the
snapshot is requested (R67). DESIGN CHOICE (log entry 21): from here to its copy the snapshot is empty, and
until the completion the participant list is empty and the fill figures read 0 and empty. -/
def execComputePoint (s : State) : Host.Outcome State Fault Refusal :=
  s.act s.due.compute fun s =>
    { s with
      due := { s.due with compute := false }
      limit :=
        { s.limit with
          ownCurtail := s.ownCurtailNow
          assertionSeen := false
          levelSeen := s.qual.curtail.level }
      turn :=
        { s.turn with
          order := [], given := [], ownTurn := false, ownCandidate := s.ownCandidateNow, deciding := true,
          barred := false }
      share :=
        { s.share with
          phase := .awaitingSnapshot, snapshot := none, participants := [], fillNumber := 0,
          fillLevel := 0, frozen := [], excluded := [] }
      store := s.store.request .snapshot }

/-! ### The snapshot (R67) -/

/-- What the copy takes of an entry (R67); the own entry is copied as EMPTY. -/
def snapshotEntry (own : Option Nat) (pad : Nat) (e : Entry) : Entry :=
  if some pad = own then Entry.blank else { e with age := none, expected := none, mismatch := false }

/-- The snapshot of this instant (R67). -/
def State.snapshotNow (s : State) : Snapshot :=
  { entries := s.view.entries.mapIdx (snapshotEntry s.standing.pad)
    own := s.line.sent.claim
    echo := s.line.echo }

/-! ### Limits in force (R80 to R82, R86) -/

/-- The limits that a member of the limit set announces. -/
structure LimitMember where
  branch : Nat
  branchLimit : Nat
  feederLimit : Nat
  curtailLimit : Nat
  deriving DecidableEq, Repr

/-- The own station as a member: the configured values (R80). -/
def Setup.member (c : Setup) : LimitMember :=
  { branch := c.branch, branchLimit := c.branchLimit, feederLimit := c.feederLimit,
    curtailLimit := c.curtailLimit }

/-- An entry as a member: LIVE, STALE or HELD, with its limits as last heard (R80). -/
def Entry.member (e : Entry) : Option LimitMember :=
  if e.state = .live ∨ e.state = .stale ∨ e.state = .held then
    e.claim.map fun c =>
      { branch := c.branch, branchLimit := c.branchLimit, feederLimit := c.feederLimit,
        curtailLimit := c.curtailLimit }
  else none

/-- The limit set (R80). -/
def limitSet (cfg : Setup) (entries : List Entry) : List LimitMember :=
  cfg.member :: entries.filterMap Entry.member

/-- The least of some figures, none of none. -/
def least : List Nat → Option Nat
  | [] => none
  | x :: xs => some (xs.foldl min x)

/-- Curtailment is in force (R86): the own curtail state, or the flag of an entry that is LIVE. -/
def curtailInForce (ownCurtail : Bool) (entries : List Entry) : Bool :=
  ownCurtail || entries.any fun e => e.state == .live && match e.claim with
    | some c => c.curtailFlag
    | none => false

/-- F_lim (R81). The limit set is never empty. -/
def feederLimitInForce (inForce : Bool) (members : List LimitMember) : Nat :=
  let f := (least (members.map LimitMember.feederLimit)).getD 0
  if inForce then min f ((least (members.map LimitMember.curtailLimit)).getD 0) else f

/-- B_lim of a branch (R82). -/
def branchLimitInForce (members : List LimitMember) (branch : Nat) : Nat :=
  (least ((members.filter fun m => m.branch == branch).map LimitMember.branchLimit)).getD
    Config.openBranchLimit

/-! ### Loads that are not filled (R88 to R90) -/

/-- A fixed load or a reservation: an amount counted on the feeder and on one branch, or on every branch
(`none`) for an ADOPTED entry (R90). -/
structure BudgetLoad where
  amount : Nat
  branch : Option Nat
  deriving DecidableEq, Repr

/-- What an entry counts beside its mismatch excess: a fixed load where it is heard and not ACTIVE (R89), a
reservation where it is not heard (R90), nothing where it is a participant. -/
def Entry.baseLoad (e : Entry) : List BudgetLoad :=
  match e.state, e.claim with
  | .live, some c =>
    if !e.heard then [{ amount := e.reserve.getD 0, branch := some c.branch }]
    else if c.kind = .active then []
    else [{ amount := c.load, branch := some c.branch }]
  | .stale, some c => [{ amount := e.reserve.getD 0, branch := some c.branch }]
  | .held, some c => [{ amount := e.reserve.getD 0, branch := some c.branch }]
  | .adopted, _ => [{ amount := e.reserve.getD 0, branch := none }]
  | _, _ => []

/-- A mismatch excess, counted in addition to whatever else its entry counts (R90). -/
def Entry.excessLoad (e : Entry) : List BudgetLoad :=
  match e.excess, e.claim with
  | some x, some c => [{ amount := x, branch := some c.branch }]
  | _, _ => []

/-- What the own station counts (R88): nothing as a participant, a fixed load where its claim was sent with
another kind, a reservation of its last sent claim where none was sent. -/
def Snapshot.ownLoad (snap : Snapshot) (branch : Nat) : List BudgetLoad :=
  match snap.echo with
  | .notSent => [{ amount := snap.own.load, branch := some branch }]
  | .good => if snap.own.kind = .active then [] else [{ amount := snap.own.load, branch := some branch }]
  | .failed => if snap.own.kind = .active then [] else [{ amount := snap.own.load, branch := some branch }]

/-- Every fixed load and reservation of the computation (R88 to R90). -/
def Snapshot.loads (snap : Snapshot) (branch : Nat) : List BudgetLoad :=
  snap.ownLoad branch ++ snap.entries.flatMap fun e => e.baseLoad ++ e.excessLoad

/-- The sum of the loads on the feeder (R91). -/
def feederLoad (loads : List BudgetLoad) : Nat := (loads.map BudgetLoad.amount).sum

/-- The sum of the loads on a branch, which includes the reserve of every ADOPTED entry (R91). -/
def branchLoad (loads : List BudgetLoad) (branch : Nat) : Nat :=
  ((loads.filter fun l => l.branch == none || l.branch == some branch).map BudgetLoad.amount).sum

/-! ### SNAPSHOT_COPY -/

/-- The limit unit's work on a snapshot (R81, R82, R86, R91). -/
def Limit.work (l : Limit) (cfg : Setup) (snap : Snapshot) : Limit :=
  let inForce := curtailInForce l.ownCurtail snap.entries
  let members := limitSet cfg snap.entries
  let loads := snap.loads cfg.branch
  let feeder := feederLimitInForce inForce members
  { l with
    inForce := inForce
    feeder := feeder
    branches := (List.range Config.branches).map (branchLimitInForce members)
    feederBudget := feeder - feederLoad loads
    branchBudgets :=
      (List.range Config.branches).map fun b => branchLimitInForce members b - branchLoad loads b }

/-- CURTAIL_ON or CURTAIL_OFF where the flag has changed, with the F_lim in force (R86). -/
def State.noteCurtail (s : State) (was : Bool) : State :=
  if !was && s.limit.inForce then s.raise .curtailOn none (some s.limit.feeder)
  else if was && !s.limit.inForce then s.raise .curtailOff none (some s.limit.feeder)
  else s

/-- SNAPSHOT_COPY: on its grant the snapshot is taken and the limit unit works on it (R67, R92). An access
whose computation PORT RESET has abandoned only ends its grant (R114). -/
def execSnapshotCopy (s : State) : Host.Outcome State Fault Refusal :=
  s.act (s.granted .snapshot) fun s =>
    if s.share.phase = .awaitingSnapshot then
      { s with
        store := s.store.release
        share := { s.share with phase := .computing, snapshot := some s.snapshotNow }
        limit := s.limit.work s.cfg s.snapshotNow }.noteCurtail s.limit.inForce
    else { s with store := s.store.release }

end Sys2Proof.Machine
end

