-- ==== Sys2Proof/Machine/ShareFill.lean ====
section
/-! DEFINITION. The share computation (Chapter 6): participants, fills, floor exclusion, and COMPLETION. -/

namespace Sys2Proof.Machine

/-! ### Participants (R96 to R98) -/

/-- The record of a claim that takes part; a weight of 0 is taken as 1 (R97). -/
def participantOf (pad branch : Nat) (c : Claim) : Participant :=
  { pad, branch, request := c.request, floor := c.floor, weight := max 1 c.weight }

/-- A peer entry as a participant: LIVE, heard, of kind ACTIVE (R96). -/
def Entry.participant (e : Entry) (pad : Nat) : Option Participant :=
  match e.claim with
  | some c =>
    if e.state = .live ∧ e.heard = true ∧ c.kind = .active then some (participantOf pad c.branch c)
    else none
  | none => none

/-- The own station as a participant (R88, R96). -/
def Snapshot.ownParticipant (snap : Snapshot) (pad branch : Nat) : Option Participant :=
  if snap.echo ≠ .notSent ∧ snap.own.kind = .active then some (participantOf pad branch snap.own)
  else none

/-- The participant list in ascending pad order (R96). -/
def Snapshot.participants (snap : Snapshot) (own : Option Nat) (branch : Nat) : List Participant :=
  (List.range Config.pads).filterMap fun p =>
    if some p = own then snap.ownParticipant p branch
    else (snap.entries.getD p Entry.blank).participant p

/-- A participant set aside: request 0, or a floor above its request (R98). -/
def Participant.setAside (p : Participant) : Bool :=
  decide (p.request = 0) || decide (p.request < p.floor)

/-! ### The fill (R99 to R103) -/

/-- A participant of a fill, with the share at which it was frozen, if it was. -/
structure FillMember where
  part : Participant
  frozen : Option Nat
  deriving DecidableEq, Repr

/-- The share at a level (R99). -/
def FillMember.shareAt (m : FillMember) (level : Nat) : Nat :=
  m.frozen.getD (min m.part.request (m.part.weight * level / 16))

/-- The sum of all shares at a level (R99). -/
def totalAt (ms : List FillMember) (level : Nat) : Nat := (ms.map (FillMember.shareAt · level)).sum

/-- The branch sum at a level (R99). -/
def branchSumAt (ms : List FillMember) (branch level : Nat) : Nat :=
  totalAt (ms.filter fun m => m.part.branch == branch) level

/-- The budgets of a computation: FB and BB[0] to BB[5] (R91). -/
structure Budgets where
  feeder : Nat
  branches : List Nat
  deriving DecidableEq, Repr

/-- BB of a branch. -/
def Budgets.branch (b : Budgets) (branch : Nat) : Nat := b.branches.getD branch 0

/-- A level fits when every branch sum and the total are within their budgets (R99). -/
def fits (b : Budgets) (ms : List FillMember) (level : Nat) : Bool :=
  decide (totalAt ms level ≤ b.feeder)
    && (List.range Config.branches).all fun br => decide (branchSumAt ms br level ≤ b.branch br)

/-- The steps of the search for the largest level: the powers of two below 16384. -/
def levelSteps : List Nat := [8192, 4096, 2048, 1024, 512, 256, 128, 64, 32, 16, 8, 4, 2, 1]

/-- L', the largest level up to 16383 that fits (R100). The levels that fit form one unbroken run from the
current level upward (R99), so a search by halves finds its end (log entry 34). -/
def topLevel (b : Budgets) (ms : List FillMember) : Nat :=
  levelSteps.foldl (fun level step => if fits b ms (level + step) then level + step else level) 0

/-- An unfrozen participant joins the frozen set with its share at a level (R101). -/
def FillMember.freezeAt (level : Nat) (m : FillMember) : FillMember :=
  { m with frozen := some (m.shareAt level) }

/-- The branch test (R101): the participants on a branch whose sum at the next level exceeds its budget
freeze at this one. -/
def freezeBranches (b : Budgets) (ms : List FillMember) (level : Nat) : List FillMember :=
  ms.map fun m =>
    if b.branch m.part.branch < branchSumAt ms m.part.branch (level + 1) then m.freezeAt level else m

/-- The stages of a fill (R100 to R102); the fuel is the bound of R102 on their number. Answers the level
at which the fill ends and its members, all frozen. -/
def fillStages (b : Budgets) : (fuel : Nat) → List FillMember → Nat × List FillMember
  | 0, ms => (topLevel b ms, ms.map (FillMember.freezeAt (topLevel b ms)))
  | fuel + 1, ms =>
    let top := topLevel b ms
    if top = Config.maxLevel then (top, ms.map (FillMember.freezeAt top))
    else if b.feeder < totalAt ms (top + 1) then (top, ms.map (FillMember.freezeAt top))
    else
      let next := freezeBranches b ms top
      if next.all fun m => m.frozen.isSome then (top, next) else fillStages b fuel next

/-- A fill over some participants, afresh from level 0 with nobody frozen (R100). With no participant it
ends at once at level 0. -/
def runFill (b : Budgets) (ps : List Participant) : Nat × List FillMember :=
  if ps.isEmpty then (0, [])
  else fillStages b ps.length (ps.map fun p => { part := p, frozen := none })

/-- The share with which a fill ends for a member. -/
def FillMember.result (m : FillMember) : Nat := m.frozen.getD 0

/-! ### Floor exclusion (R104 to R107) -/

/-- The participant is below its floor (R104). -/
def FillMember.belowFloor (m : FillMember) : Bool := decide (m.result < m.part.floor)

/-- Of two participants below their floor, the one that is excluded first: the lower weight, and the higher
pad among equal weights (R105). -/
def excludedFirst (a b : Participant) : Participant :=
  if b.weight < a.weight ∨ (b.weight = a.weight ∧ a.pad < b.pad) then b else a

/-- The one participant to exclude (R105). -/
def pickExcluded : List Participant → Option Participant
  | [] => none
  | p :: ps => some (ps.foldl excludedFirst p)

/-- The outcome of the fills: how many were run, the last one's level and members, and the pads
excluded. -/
structure FillOutcome where
  count : Nat
  level : Nat
  members : List FillMember
  excluded : List Nat
  deriving DecidableEq, Repr

/-- The participants that are below their floor after a fill (R104). -/
def belowFloorOf (ms : List FillMember) : List Participant :=
  (ms.filter FillMember.belowFloor).map FillMember.part

/-- The fills of a computation (R104 to R107), `left` of them at most. After fills 1 to 8 one participant
below its floor is excluded, after fill 9 all of them; a fill that leaves nobody below, or fill 10, is the
last, and whoever is below its floor after it is excluded. -/
def runFills (b : Budgets) : (left : Nat) → List Participant → List Nat → FillOutcome
  | 0, _, excluded => { count := Config.maxFills, level := 0, members := [], excluded }
  | left + 1, ps, excluded =>
    let (level, ms) := runFill b ps
    let below := belowFloorOf ms
    let gone := if left = 1 then below.map Participant.pad
      else ((pickExcluded below).map Participant.pad).toList
    if below.isEmpty || left == 0 then
      { count := Config.maxFills - left, level, members := ms,
        excluded := excluded ++ below.map Participant.pad }
    else runFills b left (ps.filter fun p => !gone.contains p.pad) (excluded ++ gone)

/-- The share and disposition of a participant (R98, R107, R109). -/
def FillOutcome.row (out : FillOutcome) (p : Participant) : ResultRow :=
  if p.setAside then { pad := p.pad, branch := p.branch, share := 0, disposition := .setAside }
  else if out.excluded.contains p.pad then
    { pad := p.pad, branch := p.branch, share := 0, disposition := .excluded }
  else
    { pad := p.pad, branch := p.branch,
      share := ((out.members.find? fun m => m.part.pad == p.pad).map FillMember.result).getD 0,
      disposition := .filled }

/-- The fills over the participants that are not set aside (R98, R105). -/
def fillsOf (b : Budgets) (ps : List Participant) : FillOutcome :=
  runFills b Config.maxFills (ps.filter fun p => !p.setAside) []

/-- The result table of a computation (R109). -/
def resultRows (b : Budgets) (ps : List Participant) : List ResultRow := ps.map (fillsOf b ps).row

/-! ### COMPLETION (R109, R110) -/

/-- The budgets that the limit unit has handed over (R92). -/
def Limit.budgets (l : Limit) : Budgets := { feeder := l.feederBudget, branches := l.branchBudgets }

/-- The results of a computation (R109). -/
def State.results (s : State) (ps : List Participant) : Published :=
  let out := fillsOf s.limit.budgets ps
  let rows := resultRows s.limit.budgets ps
  let own := s.standing.pad.bind (shareOf rows)
  { rows := rows
    lastLevel := out.level
    fillCount := out.count
    participantCount := ps.length
    stamp := s.timer.roundCounter
    feederBudget := s.limit.feederBudget
    ownBranchBudget := s.limit.budgets.branch s.cfg.branch
    ownShare := own.getD 0
    ownParticipant := own.isSome }

/-- The completion of the computation on a snapshot: the results are published whole, and the expected-commit
write is requested (R110). DESIGN CHOICE (log entry 21): the snapshot, the participant list and the last fill's
figures stay until the next compute point. -/
def State.complete (s : State) (snap : Snapshot) : State :=
  let ps := snap.participants s.standing.pad s.cfg.branch
  let out := fillsOf s.limit.budgets ps
  { s with
    share :=
      { s.share with
        phase := .none
        participants := ps
        fillNumber := out.count
        fillLevel := out.level
        frozen := out.members.map fun m => (m.part.pad, m.result)
        excluded := out.excluded
        published := s.results ps }
    store := s.store.request .expectedWrite }

/-- COMPLETION. -/
def execCompletion (s : State) : Host.Outcome State Fault Refusal :=
  s.act (s.share.phase == .computing) fun s =>
    match s.share.snapshot with
    | some snap => s.complete snap
    | none => { s with share := { s.share with phase := .none } }

end Sys2Proof.Machine
end

