-- ==== Sys2Proof/Machine/Apply.lean ====
section
/-! DEFINITION. The apply unit (Chapter 7): APPLY_POINT and SPCHG_PULSE_END. -/

namespace Sys2Proof.Machine

/-- The own share g of the apply rule: the own share where the own station was a participant, 0 otherwise
(R120). -/
def Published.applyShare (p : Published) : Nat := if p.ownParticipant then p.ownShare else 0

/-- The applied setpoint is forced to 0: CONFLICT, or the session's zero demand (R121). -/
def State.forcedZero (s : State) : Bool :=
  s.standing.state == .conflict || s.session.state.zeroDemand

/-- The applied setpoint by its case (R121 to R124), before the ceilings. -/
def appliedByCase (forced : Bool) (echo : Echo) (g commit previous : Nat) : Nat :=
  if forced then 0
  else match echo with
    | .good => min g commit
    | .failed => min g previous
    | .notSent => previous

/-- The last echoed commit: that of this round's claim where its echo was GOOD (R121 to R124). -/
def echoedCommit (echo : Echo) (commit previous : Nat) : Nat :=
  match echo with
  | .good => commit
  | .failed => previous
  | .notSent => previous

/-- The applied setpoint at an apply point, under the two ceilings (R125). -/
def State.appliedNow (s : State) : Nat :=
  let a := s.applyUnit
  let byCase := appliedByCase s.forcedZero s.line.echo s.share.published.applyShare a.lastCommit a.applied
  min (min byCase (echoedCommit s.line.echo a.lastCommit a.lastEchoed)) s.cfg.chargerRating

/-- APPLY_POINT (R120, R126, R128): the applied setpoint, the last echoed commit, the grant register, and a
pulse on SPCHG where the applied setpoint changes. An applied setpoint above 0 sets the open timeout count
to 0 (R148). -/
def execApplyPoint (s : State) : Host.Outcome State Fault Refusal :=
  s.act s.due.apply fun s =>
    { s with
      due := { s.due with apply := false }
      applyUnit :=
        { s.applyUnit with
          applied := s.appliedNow
          lastEchoed := echoedCommit s.line.echo s.applyUnit.lastCommit s.applyUnit.lastEchoed
          grant :=
            if s.share.published.ownParticipant then s.share.published.applyShare else s.appliedNow
          spchg := s.appliedNow != s.applyUnit.applied }
      seq := { s.seq with openTimeout := if 0 < s.appliedNow then 0 else s.seq.openTimeout } }

/-- SPCHG_PULSE_END (R128): the pulse ends one slot period after the apply point. -/
def execSpchgPulseEnd (s : State) : Host.Outcome State Fault Refusal :=
  s.act s.due.spchgEnd fun s =>
    { s with
      due := { s.due with spchgEnd := false }
      applyUnit := { s.applyUnit with spchg := false } }

end Sys2Proof.Machine
end

