-- ==== Sys2Proof/Machine/Sequencer.lean ====
section
/-! DEFINITION. The contactor sequencer (08): QUALIFIED_FEEDBACK_CHANGE, CONFIRM_WINDOW_EXPIRED,
SWITCH_WINDOW. -/

namespace Sys2Proof.Machine

/-! ### QUALIFIED_FEEDBACK_CHANGE (R140 to R142, R146, R149) -/

/-- The qualified feedback of a contactor changes (R140). -/
def State.changeFeedback (s : State) (c : Contactor) : State :=
  match c with
  | .pre =>
    { s with
      qual := { s.qual with preFb := { level := !s.qual.preFb.level, run := 0 } } }
  | .main =>
    { s with
      qual := { s.qual with mainFb := { level := !s.qual.mainFb.level, run := 0 } } }

/-- MAIN's confirmation moves MAIN_CLOSING to PRE_RELEASE while the open mode is NONE, and the session from
PRECHARGE to CONNECTED (R146). -/
def State.mainConfirmed (s : State) (wasAwaiting : Bool) : State :=
  let advances := wasAwaiting = true ∧ s.seq.phase = .mainClosing ∧ s.seq.openMode = .none
  { s.setSession (if advances ∧ s.session.state = .precharge then .connected else s.session.state)
      .mainConfirmed with
    seq := if advances then { s.seq with phase := .preRelease } else s.seq }

/-- In OPENING, once both contactors are AGREED, the phase becomes IDLE and contactors open is signalled
(R149). -/
def State.openingConfirmed (s : State) : State :=
  if s.seq.phase = .opening ∧ s.seq.preConfirm = .agreed ∧ s.seq.mainConfirm = .agreed then
    { s with seq := s.seq.enterIdle }.contactorsOpen
  else s

/-- The contactor's confirm state is AWAITING. -/
def Confirm.isAwaiting : Confirm → Bool
  | .awaiting _ => true
  | .agreed => false
  | .failed => false

/-- A qualified change has made the feedback match the drive (R141). -/
def State.feedbackMatches (s : State) (c : Contactor) : State :=
  let wasAwaiting := (s.seq.confirm c).isAwaiting
  let s1 := { s with seq := s.seq.setConfirm c .agreed }
  let s2 := match c with
    | .pre => s1
    | .main => s1.mainConfirmed wasAwaiting
  s2.openingConfirmed

/-- A qualified change has moved the feedback away from the drive: a dropout or an unexpected closure while
the contactor is AGREED; a FAILED one raises no further notice (R142). -/
def State.feedbackDeparts (s : State) (c : Contactor) : State :=
  if s.seq.confirm c = .agreed then s.contactorFault c (movedAwayCode c (s.seq.drive c)) else s

/-- QUALIFIED_FEEDBACK_CHANGE. Feedback faults are judged from the acceptance of SETUP onward (R141,
R151). -/
def execQualifiedFeedbackChange (c : Contactor) (s : State) : Host.Outcome State Fault Refusal :=
  s.act (s.feedbackChangeDue c) fun s =>
    let s1 := s.changeFeedback c
    if !s.configured then s1
    else if s1.feedback c = s1.seq.drive c then s1.feedbackMatches c
    else s1.feedbackDeparts c

/-! ### CONFIRM_WINDOW_EXPIRED (R141, R142) -/

/-- The contactor fault of a contactor whose confirm count has reached 5. -/
def State.expireConfirm (s : State) (c : Contactor) : State :=
  if (s.seq.confirm c).expired then s.contactorFault c (notConfirmedCode c (s.seq.drive c)) else s

/-- CONFIRM_WINDOW_EXPIRED: two faults of one boundary raise two notices, PRE's first (R142). -/
def execConfirmWindowExpired (s : State) : Host.Outcome State Fault Refusal :=
  s.act (s.seq.preConfirm.expired || s.seq.mainConfirm.expired) fun s =>
    (s.expireConfirm .pre).expireConfirm .main

/-! ### SWITCH_WINDOW (R143 to R149) -/

/-- Switch a drive; the confirm state is set from the feedback (R141). -/
def Seq.switch (q : Seq) (c : Contactor) (on feedback : Bool) : Seq :=
  match c with
  | .pre => { q with preDrive := on, preConfirm := confirmAfterChange on feedback }
  | .main => { q with mainDrive := on, mainConfirm := confirmAfterChange on feedback }

/-- Switch a drive off if it is on (R149). -/
def Seq.switchOff (q : Seq) (c : Contactor) (feedback : Bool) : Seq :=
  if q.drive c then q.switch c false feedback else q

/-- The open mode and the round's figures allow the opening (R149). -/
def State.mayOpen (s : State) : Bool :=
  match s.seq.openMode with
  | .forced => decide (s.applyUnit.applied = 0)
  | .normal =>
    decide (s.applyUnit.applied = 0)
      && ((decide (s.session.lastMeasured ≤ s.cfg.openThreshold) && decide (s.session.reportAge < 4))
        || decide (s.seq.openTimeout = 50))
  | .none => false

/-- The phases in which a window can open (R149). -/
def Phase.canOpen : Phase → Bool
  | .precharging => true
  | .mainClosing => true
  | .preRelease => true
  | .on => true
  | .faulted => true
  | .idle => false
  | .turnTaken => false
  | .opening => false

/-- The opening (R149): every drive that is on is switched off, and the phase becomes OPENING, or stays
FAULTED. -/
def State.openContactors (s : State) : State :=
  let q := (s.seq.switchOff .pre (s.feedback .pre)).switchOff .main (s.feedback .main)
  { s with seq := { q with phase := if s.seq.phase = Phase.faulted then Phase.faulted else .opening } }.openingConfirmed

/-- TURN_TAKEN at the window (R144): a forced open mode cancels the close; otherwise PRE is switched on with
the switched marker. -/
def State.closePre (s : State) : State :=
  if s.seq.openMode = .forced then { s with seq := s.seq.enterIdle }.contactorsOpen
  else
    { s with
      seq :=
        { s.seq.switch .pre true (s.feedback .pre) with
          phase := .precharging, prechargeCount := 0, switched := true, switchedFresh := true } }

/-- The conditions under which PRECHARGING goes on to MAIN (R145). -/
def State.mainDue (s : State) : Bool :=
  decide (s.cfg.prechargeRounds ≤ s.seq.prechargeCount) && s.seq.preConfirm == .agreed

/-- PRECHARGING at the window with the open mode NONE (R145). -/
def State.closeMain (s : State) : State :=
  if s.mainDue then
    { s with seq := { s.seq.switch .main true (s.feedback .main) with phase := .mainClosing } }
  else s

/-- PRE_RELEASE at the window with the open mode NONE (R146). -/
def State.releasePre (s : State) : State :=
  { s with seq := { s.seq.switch .pre false (s.feedback .pre) with phase := .on } }

/-- What the window does by phase while nothing opens (R144 to R146). -/
def State.windowByPhase (s : State) : State :=
  match s.seq.phase with
  | .turnTaken => s.closePre
  | .precharging => if s.seq.openMode = .none then s.closeMain else s
  | .preRelease => if s.seq.openMode = .none then s.releasePre else s
  | .idle => s
  | .mainClosing => s
  | .on => s
  | .opening => s
  | .faulted => s

/-- A drive is on. -/
def Seq.anyDrive (q : Seq) : Bool := q.preDrive || q.mainDrive

/-- SWITCH_WINDOW (R143): the sequencer evaluates its phase and makes every drive change that is due. -/
def execSwitchWindow (s : State) : Host.Outcome State Fault Refusal :=
  s.act s.due.switchWindow fun s =>
    let s1 := { s with due := { s.due with switchWindow := false } }
    if s.seq.phase.canOpen && s.seq.anyDrive && s.mayOpen then s1.openContactors else s1.windowByPhase

end Sys2Proof.Machine
end

