-- ==== Sys2Proof/Machine/Timer.lean ====
section
/-! DEFINITION. The round timer (Chapter 2) and the input qualifier: PERIOD_START, the starts of rounds,
and what a received frame does to the timer. -/

namespace Sys2Proof.Machine

/-! ### Period starts (R18, R19) -/

/-- One sample of a qualified input: an equal sample sets the run to 0, a differing one increments it
(R83, R140, R157). -/
def QInput.sample (q : QInput) (level : Bool) : QInput :=
  if level = q.level then { q with run := 0 } else { q with run := q.run + 1 }

/-- The qualified level takes the sampled level, which differs from it, and the run becomes 0
(R83, R140, R157). -/
def QInput.change (q : QInput) : QInput := { level := !q.level, run := 0 }

/-- The slot index after a period start (R19): the next slot period, or slot period 0 of a round that has
just begun; none while no round runs. -/
def Timer.slotAfterPeriodStart (t : Timer) : Option Nat :=
  if t.roundRunning then
    match t.slot with
    | some k => some (k + 1)
    | none => some 0
  else none

/-- The slot periods that have passed, at the start of the next period, since entry into SEARCH: the count is
measured from that instant, and not from the period start after it (R32, log entry 23). -/
def Timer.searchSilence (t : Timer) : Nat := ((t.nextPeriod - t.searchStart) / (Config.slotUnits : Int)).toNat

/-- The silence count after a slot period has ended: in SEARCH the slot periods that have passed since entry
(R32), and in REALIGN one more as long as no valid claim has been evaluated (R35). -/
def Timer.silenceAfterPeriod (t : Timer) : Nat :=
  match t.mode with
  | .search => t.searchSilence
  | .realign =>
    if t.target.isNone && t.slot.isSome then min Config.silencePeriods (t.silence + 1) else t.silence
  | .halted => t.silence
  | .running => t.silence

/-- The timer at a period start. -/
def Timer.periodStarted (t : Timer) : Timer :=
  { t with
    slot := t.slotAfterPeriodStart
    silence := t.silenceAfterPeriod
    periodStart := t.nextPeriod
    nextPeriod := t.nextPeriod + (Config.slotUnits : Int) }

/-- A period start may be taken: the period before it may end, slot period 39 is ended by the round
boundary, and neither the end of SEARCH by silence nor the target of a realignment comes first
(R19, R32, R34). -/
def State.canPeriodStart (s : State) : Bool :=
  s.timeMayPass && s.timer.slot != some 39 && !s.timer.searchExpired && !s.timer.targetReached

/-- The named points that this slot period raises (R20 to R22), and the end of an SPCHG pulse (R128). -/
def State.pointsAt (s : State) (slot : Option Nat) : Due :=
  { s.due with
    ownSlot := slot.isSome && slot == s.standing.pad
    compute := slot == some 36
    apply := slot == some 37
    switchWindow := slot == some 38
    sweepPoint := slot == some 39
    spchgEnd := s.applyUnit.spchg }

/-- PERIOD_START (R18): the slot index advances and each qualified input takes one sample. CURT and
DOCK_SNS are asserted low, and a feedback reads closed at a low level. CURT is sampled from the acceptance
of SETUP onward (R83). -/
def State.periodStarts (s : State) (curt preFb mainFb dockSns : Bool) : State :=
  { s with
    inputs := { s.inputs with curt := curt, preFb := preFb, mainFb := mainFb, dockSns := dockSns }
    timer := s.timer.periodStarted
    due := s.pointsAt s.timer.slotAfterPeriodStart
    qual :=
      { curtail := if s.configured then s.qual.curtail.sample (!curt) else s.qual.curtail
        preFb := s.qual.preFb.sample (!preFb)
        mainFb := s.qual.mainFb.sample (!mainFb)
        dock := s.qual.dock.sample (!dockSns) } }

/-- PERIOD_START. -/
def execPeriodStart (curt preFb mainFb dockSns : Bool) (s : State) : Host.Outcome State Fault Refusal :=
  s.act s.canPeriodStart fun s => s.periodStarts curt preFb mainFb dockSns

/-- QUALIFIED_CURTAIL_CHANGE (R83): the level changes; an assertion sets both flags of the curtail memory
(R84). -/
def execQualifiedCurtailChange (s : State) : Host.Outcome State Fault Refusal :=
  s.act s.curtailChangeDue fun s =>
    { s with
      qual := { s.qual with curtail := s.qual.curtail.change }
      limit :=
        { s.limit with
          assertionSeen := s.limit.assertionSeen || !s.qual.curtail.level
          levelSeen := s.limit.levelSeen || !s.qual.curtail.level } }

/-! ### Starts of rounds (R32 to R35) -/

/-- A round starts at an instant that no round boundary marks: the timer is in RUNNING, and the next
period start begins slot period 0 there. -/
def Timer.startRound (t : Timer) (instant : Int) : Timer :=
  { t with
    mode := .running, slot := none, nextPeriod := instant, roundStart := instant, reference := none,
    misaligned := 0, silence := 0, target := none, inGap := false }

/-- The echo-check result whenever the timer starts or restarts its round (R15). -/
def Line.echoCleared (l : Line) : Line := { l with echo := .notSent }

/-- SEARCH_SILENCE_EXPIRED (R32): an own round starts 80 slot periods after entry into SEARCH, and the
standing goes to LISTEN at that instant (R41). -/
def execSearchSilenceExpired (s : State) : Host.Outcome State Fault Refusal :=
  s.act s.timer.searchExpired fun s =>
    { s with
      timer := { s.timer.startRound s.timer.searchExpiry with lastBoundary := none }
      line := s.line.echoCleared
      standing := if s.standing.state = .acquire then s.standing.enterListen else s.standing }

/-- The standing on the signal realigned (R52). -/
def StandingCtl.realigned (st : StandingCtl) : StandingCtl :=
  if st.state = .resync then st.enterListen else st

/-- REALIGN_TARGET_REACHED (R34): the first round on the new clock starts at the target. -/
def execRealignTargetReached (s : State) : Host.Outcome State Fault Refusal :=
  s.act s.timer.targetReached fun s =>
    { s with
      timer := s.timer.startRound (s.timer.target.getD s.timer.nextPeriod)
      line := s.line.echoCleared
      standing := s.standing.realigned }

/-- REALIGN_SILENCE_FALLBACK (R35): the timer keeps its own clock and returns to RUNNING with no gap. -/
def execRealignSilenceFallback (s : State) : Host.Outcome State Fault Refusal :=
  s.act s.timer.fallbackDue fun s =>
    { s with
      timer := s.timer.startRound s.timer.roundStart
      line := s.line.echoCleared
      standing := s.standing.realigned }

/-- MISALIGNMENT_RESYNC (R50): a transmitting standing goes to RESYNC and the timer to REALIGN (R34). -/
def execMisalignmentResync (s : State) : Host.Outcome State Fault Refusal :=
  s.act s.due.resync fun s =>
    let s1 := { s with due := { s.due with resync := false } }
    if s.standing.state.transmitting then s1.enterResync else s1

/-! ### Received frames (R25 to R27, R33, R34) -/

/-- The clock set of R33: the round is placed so that the pad's slot began at the frame start. -/
def Timer.clockSet (t : Timer) (pad : Nat) (start : Int) : Timer :=
  { t with
    mode := .running, slot := some pad, periodStart := start,
    nextPeriod := start + (Config.slotUnits : Int),
    roundStart := start - (pad * Config.slotUnits : Nat), reference := none, misaligned := 0, silence := 0,
    target := none, inGap := false, lastBoundary := none }

/-- The next round boundary of the old clock (R34). -/
def Timer.oldBoundary (t : Timer) : Int := t.roundStart + (Config.roundUnits : Int)

/-- The target fixed by the first valid claim in REALIGN: the first of the peers' round starts at or after
the next boundary of the old clock (R34). In the gap a target is already fixed. -/
def Timer.targetFor (t : Timer) (pad : Nat) (start : Int) : Int :=
  t.oldBoundary
    + (start - (pad * Config.slotUnits : Nat) - t.oldBoundary) % (Config.roundUnits : Int)

/-- The offset of a frame: its start less the expected start of its pad's slot (R27). -/
def Timer.offsetOf (t : Timer) (pad : Nat) (start : Int) : Int :=
  start - (t.roundStart + (pad * Config.slotUnits : Nat))

/-- A frame of RUNNING is kept if it started in a pad slot 0 to 35 (R25). One that started before the
running round is judged by slot period 39 of the round before; where no boundary came before the round,
by a free value (log entry 10). DESIGN CHOICE (log entry 45): the mode is that of the evaluation, so a frame that
started in slot 39 of the last round in RUNNING and is evaluated in REALIGN is kept; R25 discards it by its start,
but discards none in REALIGN. -/
def Timer.keepsFrame (t : Timer) (start : Int) : Bool :=
  match t.mode with
  | .running =>
    if start < t.roundStart then
      match t.lastBoundary with
      | some b => if start < b then false else Config.earlyFrameKept (start - t.roundStart)
      | none => Config.earlyFrameKept (start - t.roundStart)
    else decide (start < t.roundStart + (Config.pads * Config.slotUnits : Nat))
  | .halted => true
  | .search => true
  | .realign => true

/-- The reference candidate after a frame that takes part: the first, or a lower pad (R27). -/
def betterReference (old : Option Reference) (new : Reference) : Option Reference :=
  match old with
  | some r => if new.pad < r.pad then some new else some r
  | none => some new

/-- What a kept frame does to the timer: it sets the clock in SEARCH (R33), fixes the target in REALIGN
(R34), and from a lower pad takes part in alignment in RUNNING (R26, R27). -/
def Timer.takeFrame (t : Timer) (own : Option Nat) (pad : Nat) (start : Int) : Timer :=
  match t.mode with
  | .search => t.clockSet pad start
  | .realign => if t.target.isNone then { t with target := some (t.targetFor pad start) } else t
  | .running =>
    match own with
    | some o =>
      if pad < o then
        { t with reference := betterReference t.reference { pad, offset := t.offsetOf pad start } }
      else t
    | none => t
  | .halted => t

/-! ### The round boundary (R23, R24, R30, R31, R34) -/

/-- The round just ending is misaligned: its reference is off by more than 40 us (R30). -/
def Timer.misalignedRound (t : Timer) : Bool :=
  match t.reference with
  | some r => decide (t.mode = .running) && decide ((Config.maxCorrectionUnits : Int) < |r.offset|)
  | none => false

/-- The correction of this boundary (R30). -/
def Timer.correction (t : Timer) : Int :=
  match t.reference with
  | some r =>
    if t.mode = .running ∧ (Config.deadBandUnits : Int) < |r.offset|
        ∧ |r.offset| ≤ (Config.maxCorrectionUnits : Int) then r.offset
    else 0
  | none => 0

/-- This boundary carries the one-second tick (R24). -/
def Timer.ticks (t : Timer) : Bool := decide (100 ≤ t.tickCount + 1)

/-- The timer at the round boundary (R23): the correction moves the boundary, the misaligned-round count is
kept in RUNNING, the counters advance, the candidate is discarded, and in REALIGN with a target the gap
opens. -/
def Timer.boundary (t : Timer) : Timer :=
  { t with
    slot := none
    nextPeriod := t.nextPeriod + t.correction
    roundStart := t.nextPeriod + t.correction
    lastBoundary := some (t.nextPeriod + t.correction)
    roundCounter := t.roundCounter + 1
    tickCount := if t.ticks then 0 else t.tickCount + 1
    reference := none
    misaligned :=
      if t.mode = .running then (if t.misalignedRound then min 255 (t.misaligned + 1) else 0)
      else t.misaligned
    silence := t.silenceAfterPeriod
    inGap := t.mode == .realign && t.target.isSome }

end Sys2Proof.Machine
end

