-- ==== Sys2Proof/Machine/Boundary.lean ====
section
/-! DEFINITION. The round boundary (R23, Table 2-3) and what falls at it: ROUND_BOUNDARY, ONE_SECOND_TICK,
OVERDRAW, REPORT_LOST. -/

namespace Sys2Proof.Machine

/-! ### The contactor sequencer's counts (R141, R145, R148, R133) -/

/-- A confirm count advances while AWAITING (R141). -/
def Confirm.advance : Confirm → Confirm
  | .awaiting n => .awaiting (min 5 (n + 1))
  | .agreed => .agreed
  | .failed => .failed

/-- The sequencer's part of the boundary: the confirm counts, the precharge count in PRECHARGING, the open
timeout while the applied setpoint is 0; the switched marker is cleared at the end of the round after its
own (R133). -/
def Seq.atBoundary (q : Seq) (applied : Nat) : Seq :=
  { q with
    preConfirm := q.preConfirm.advance
    mainConfirm := q.mainConfirm.advance
    prechargeCount :=
      if q.phase = .precharging then min 50 (q.prechargeCount + 1) else q.prechargeCount
    openTimeout := if applied = 0 then min 50 (q.openTimeout + 1) else q.openTimeout
    switched := q.switched && q.switchedFresh
    switchedFresh := false }

/-! ### The standing controller (R41, R43, R46, R50) -/

/-- The back-off remaining after a boundary, and the end of the skipped round (R46). -/
def StandingCtl.countSkipped (st : StandingCtl) : StandingCtl :=
  { st with backoff := if st.skipped then st.backoff - 1 else st.backoff, skipped := false }

/-- The end of LISTEN (R43): CONFLICT on the occupancy marker, RESYNC on two misaligned rounds, ACTIVE
otherwise. -/
def State.endListen (s : State) : State :=
  match s.standing.occupant with
  | some id => s.enterConflict id
  | none =>
    if 2 ≤ s.timer.misaligned then s.enterResync
    else { s with standing := s.standing.enter .active }

/-- A transmitting standing finds two misaligned rounds at this boundary (R50). -/
def State.resyncDue (s : State) : Bool :=
  s.standing.state.transmitting && s.timer.mode == .running && decide (2 ≤ s.timer.misaligned)

/-- The standing controller's part of the boundary: the back-off, then the standing. ACQUIRE ends at the
boundary of the round that a clock set placed (R41). -/
def State.standingBoundary (s : State) : State :=
  let s1 := { s with
    standing := s.standing.countSkipped, due := { s.due with resync := s.due.resync || s.resyncDue } }
  match s.standing.state with
  | .listen => s1.endListen
  | .acquire =>
    { s1 with
      standing := if s.timer.mode = .running then s1.standing.enterListen else s1.standing }
  | _ => s1

/-! ### The session controller (R134, R165, R166, R168, R169) -/

/-- The session states in which energy is integrated (R166). -/
def SessionState.integrates : SessionState → Bool
  | .precharge => true
  | .connected => true
  | .stopping => true
  | _ => false

/-- One round of measured power joins the record's energy (R166). -/
def Record.integrate (r : Record) (measured : Nat) : Record :=
  { r with
    accumulator := (r.accumulator + measured) % Config.energyUnit
    energyNeeded := r.energyNeeded - (r.accumulator + measured) / Config.energyUnit
    delivered := min 65535 (r.delivered + (r.accumulator + measured) / Config.energyUnit) }

/-- The charger draws more than the margin allows (R168). -/
def overdrawing (measured applied : Nat) : Bool := decide (applied + 5 + applied / 16 < measured)

/-- The report age after a boundary (R165). -/
def Session.nextAge (q : Session) : Nat := min 255 (q.reportAge + 1)

/-- The report age, the energy and the overdraw run after a boundary (R165, R166, R168). -/
def Session.atBoundary (q : Session) (applied : Nat) : Session :=
  { q with
    reportAge := q.nextAge
    record :=
      if q.state.integrates = true ∧ q.nextAge < 4 then
        q.record.map fun r => r.integrate q.lastMeasured
      else q.record
    overdrawRun :=
      if q.state = .connected then
        if overdrawing q.lastMeasured applied then min 8 (q.overdrawRun + 1) else 0
      else 0 }

/-- No energy is needed any more (R169). -/
def Session.noEnergyNeeded (q : Session) : Bool :=
  match q.record with
  | some r => decide (r.energyNeeded = 0)
  | none => false

/-- The first of R169's three conditions that holds in CONNECTED, as the cause of the stop; none where the
session goes on. -/
def Session.stopCause (q : Session) : Option Cause :=
  if q.state ≠ .connected then none
  else if 8 ≤ q.overdrawRun then some .overdraw
  else if 50 ≤ q.reportAge then some .reportLost
  else if q.noEnergyNeeded then some .complete
  else none

/-- The intent age after a boundary (R134). -/
def State.nextIntentAge (s : State) : Nat :=
  if s.session.state = .intent ∧ s.turn.ownTurn = false then min 255 (s.turn.intentAge + 1)
  else s.turn.intentAge

/-- The session controller's part of the boundary. A stop for overdraw or a lost report is made due, with
the value of its notice; COMPLETE is taken at once (R169). -/
def State.sessionBoundary (s : State) : State :=
  let q := s.session.atBoundary s.applyUnit.applied
  let s1 := { s with
    session := q
    turn := { s.turn with intentAge := s.nextIntentAge }
    due :=
      { s.due with
        overdraw := if q.stopCause = some .overdraw then some q.lastMeasured else none
        reportLost := if q.stopCause = some .reportLost then some q.reportAge else none } }
  if q.stopCause = some .complete then (s1.setSession .stopping .complete).requestOpen .normal else s1

/-! ### ROUND_BOUNDARY -/

/-- The round boundary can be taken: slot period 39 of a running round may end (R19, R23). -/
def State.canRoundBoundary (s : State) : Bool :=
  s.timeMayPass && s.timer.roundRunning && s.timer.slot == some 39

/-- The round timer's own work, the echo-check result (R15) and the sequencer's counts. -/
def State.timerBoundary (s : State) : State :=
  { s with
    timer := s.timer.boundary
    line := s.line.echoCleared
    seq := s.seq.atBoundary s.applyUnit.applied
    due := { s.due with tick := s.timer.ticks } }

/-- The standing and the session controller advance in an order that the spec leaves open (R23, R188;
log entry 8). -/
def State.standingAndSession (s : State) : State :=
  let s1 := { s with free := s.free + 1 }
  if Config.firstBlockFirst s.free then s1.standingBoundary.sessionBoundary
  else s1.sessionBoundary.standingBoundary

/-- ROUND_BOUNDARY (R23). DESIGN CHOICE (log entry 40): the rows that a boundary makes due (ONE_SECOND_TICK,
OVERDRAW, REPORT_LOST, MISALIGNMENT_RESYNC, CONFIRM_WINDOW_EXPIRED) come after it, so a COMPLETE or the
conflict that ends LISTEN is taken, and its notice raised, before the contactor fault or the RESYNC of the same
boundary; R23 and R188 leave that order open. -/
def execRoundBoundary (s : State) : Host.Outcome State Fault Refusal :=
  s.act s.canRoundBoundary fun s => s.timerBoundary.standingAndSession

/-! ### ONE_SECOND_TICK, OVERDRAW, REPORT_LOST -/

/-- The departure remaining after a tick (R167). -/
def Record.tick (r : Record) : Record := { r with departure := r.departure.map fun d => d - 1 }

/-- ONE_SECOND_TICK (R167). -/
def execOneSecondTick (s : State) : Host.Outcome State Fault Refusal :=
  s.act s.due.tick fun s =>
    { s with
      due := { s.due with tick := false }
      session := { s.session with record := s.session.record.map Record.tick } }

/-- OVERDRAW (R169, R163, R150): the notice with the measured power that the boundary found, then FAULT and
FAULTED. -/
def execOverdraw (s : State) : Host.Outcome State Fault Refusal :=
  s.act s.due.overdraw.isSome fun s =>
    let s1 := (s.raise .overdraw none s.due.overdraw).setSession .fault .overdraw
    { s1 with seq := s1.seq.enterFaulted, due := { s1.due with overdraw := none } }

/-- REPORT_LOST (R169): the notice with the report age that the boundary found, then STOPPING with the open
mode NORMAL. -/
def execReportLost (s : State) : Host.Outcome State Fault Refusal :=
  s.act s.due.reportLost.isSome fun s =>
    let s1 := ((s.raise .reportLost none s.due.reportLost).setSession .stopping .reportLost).requestOpen
      .normal
    { s1 with due := { s1.due with reportLost := none } }

end Sys2Proof.Machine
end

