-- ==== Sys2Proof/Machine/OwnClaim.lean ====
section
/-! DEFINITION. The content of the own claim at a load (Table 1-3; R87, R117 to R119, R129, R133, R170,
R171). -/

namespace Sys2Proof.Machine

/-- The claim kind of a session state (Table 9-1). -/
def kindOfSession : SessionState → Kind
  | .vacant => .vacant
  | .docked => .waiting
  | .intent => .waiting
  | .precharge => .waiting
  | .connected => .active
  | .stopping => .stopping
  | .released => .vacant
  | .fault => .faulted

/-- R_session: the lesser of the record's maximum accept and the charger rating, 0 without a record
(R154, R170). -/
def State.sessionPower (s : State) : Nat :=
  match s.session.record with
  | some r => min r.maxAccept s.cfg.chargerRating
  | none => 0

/-- The floor field: the record's floor if there is one, 0 otherwise (R170). -/
def State.sessionFloor (s : State) : Nat :=
  match s.session.record with
  | some r => r.floor.getD 0
  | none => 0

/-- The required time in seconds, rounded up and clamped (R171). -/
def requiredTime (energyNeeded power : Nat) : Nat :=
  min 65535 ((energyNeeded * 360 + power - 1) / power)

/-- The base weight from the slack (R171). -/
def baseWeight (slack : Int) : Nat :=
  if slack ≤ 0 then 15
  else if slack ≤ 30 then 13
  else if slack ≤ 120 then 11
  else if slack ≤ 300 then 8
  else if slack ≤ 900 then 5
  else 3

/-- The weight of an ACTIVE claim from the record (R171). -/
def recordWeight (r : Record) (power : Nat) : Nat :=
  if power = 0 then 1
  else
    let base := match r.departure with
      | some d => baseWeight ((d : Int) - (requiredTime r.energyNeeded power : Int))
      | none => 2
    match r.vehicleClass with
    | some .urgent => min 15 (base + 2)
    | _ => base

/-- The weight field: R171 when the kind is ACTIVE, 0 otherwise (R170). Without a record R_session is 0,
and so the weight is 1. -/
def State.sessionWeight (s : State) : Nat :=
  if kindOfSession s.session.state = .active then
    match s.session.record with
    | some r => recordWeight r s.sessionPower
    | none => 1
  else 0

/-- The request (R118), capped at the applied setpoint while the report is stale (R119). -/
def State.sessionRequest (s : State) : Nat :=
  let asked := min s.sessionPower (max (s.applyUnit.grant + s.cfg.rampStep) s.sessionFloor)
  if 4 ≤ s.session.reportAge then min asked s.applyUnit.applied else asked

/-- The intent (R133). -/
def State.claimIntent (s : State) : Intent :=
  if s.session.state = .intent then .connect
  else if s.seq.switched then .switched
  else .nothing

/-- The own claim as its source blocks hold it at this instant (Table 1-3). -/
def State.ownClaim (s : State) : Claim :=
  { pad := s.standing.pad.getD 0
    branch := s.cfg.branch
    kind := kindOfSession s.session.state
    identity := s.identity
    request := s.sessionRequest
    floor := s.sessionFloor
    weight := s.sessionWeight
    draw := max s.applyUnit.applied s.session.lastMeasured
    commit := s.applyUnit.grant
    intent := s.claimIntent
    intentAge := if s.session.state = .intent then s.turn.intentAge else 0
    branchLimit := s.cfg.branchLimit
    feederLimit := s.cfg.feederLimit
    curtailLimit := s.cfg.curtailLimit
    curtailFlag := s.limit.ownCurtail || s.qual.curtail.level
    heldMask := s.view.held }

/-- The half that a load writes: the claim with its check field (R4, R12). -/
def State.loadedHalf (s : State) : Half :=
  { claim := s.ownClaim, check := crc16 (claimBits s.ownClaim) }

end Sys2Proof.Machine
end

