-- ==== Sys2Proof/Machine/Line.lean ====
section
/-! DEFINITION. The line interface and the standing controller's reactions to it (Chapters 1 and 3):
FRAME_START, CLAIM_FRAME_EVALUATED, LINE_IDLE, OWN_SLOT_START, OWN_FRAME_END. -/

namespace Sys2Proof.Machine

/-- One more line error, saturating at 65535 (R6). -/
def Line.countError (l : Line) : Line := { l with errors := min 65535 (l.errors + 1) }

/-- The receiver leaves the burst for a state. -/
def Line.rxEnter (l : Line) (st : RxState) : Line := { l with rx := { l.rx with state := st, bits := [] } }

/-! ### FRAME_START, LINE_IDLE (R1, R2) -/

/-- FRAME_START (R2): the frame start is 0.5 us before the first transition, on the slot clock (R1). The
first transition falls. -/
def execFrameStart (transition : Nat) (s : State) : Host.Outcome State Fault Refusal :=
  s.act (s.line.rx.state == .idle) fun s =>
    { s with
      inputs := { s.inputs with plRxd := false }
      line :=
        { s.line with
          rx :=
            { state := .preamble, bits := [],
              start := s.timer.periodStart + (transition : Int) - (Config.halfCellUnits : Int) } } }

/-- LINE_IDLE (R2): in DRAIN, the idle line returns the receiver to IDLE. -/
def execLineIdle (s : State) : Host.Outcome State Fault Refusal :=
  s.act (s.line.rx.state == .drain) fun s =>
    { s with inputs := { s.inputs with plRxd := true }, line := s.line.rxEnter .idle }

/-! ### Claims carrying the own pad number (R42, R49) -/

/-- A valid claim for the own pad reaches the standing controller: nothing where it carries the own
identity, the occupancy marker in LISTEN, CONFLICT in a transmitting standing (R42, R49). -/
def State.takeOwnPadClaim (s : State) (claimed : Identity) : State :=
  if claimed = s.identity then s
  else if s.standing.state = .listen then
    { s with standing := { s.standing with occupant := s.standing.occupant.or (some claimed) } }
  else if s.standing.state.transmitting then s.enterConflict claimed
  else s

/-! ### CLAIM_FRAME_EVALUATED (R2, R5 to R9, R25) -/

/-- A valid frame's claim goes to its owner (R8): to the standing controller if it carries the own pad
number, to the receive register with a request of the view store otherwise. -/
def State.handClaim (s : State) (c : Claim) : State :=
  if some c.pad = s.standing.pad then s.takeOwnPadClaim c.identity
  else
    { s with
      line := { s.line with register := some c }
      store := s.store.request .claimWrite }

/-- The timer's part of a kept frame, with the echo-check result cleared where it sets the clock
(R15, R33, R34). -/
def State.timeFrame (s : State) (pad : Nat) : State :=
  { s with
    timer := s.timer.takeFrame s.standing.pad pad s.line.rx.start
    line := if s.timer.mode = .search then s.line.echoCleared else s.line }

/-- The frame whose 192 data bits are `d` is evaluated (R5): an invalid one is counted, a valid one is
dropped before SETUP (R9), discarded and counted by its position (R25), or handed on in its two parts
(R8). -/
def State.evaluateFrame (s : State) (d : List Bool) : State :=
  if !frameValid d then { s with line := s.line.countError }
  else if !s.configured then s
  else if !s.timer.keepsFrame s.line.rx.start then { s with line := s.line.countError }
  else (s.timeFrame (fieldOf d 0 6)).handClaim (normalise (claimOfBits d))

/-- The receiver takes the cells that have come in since the burst's last step (R2). Fewer than 8 bits
and a violation or an idle line: noise. A wrong preamble: an invalid frame, DRAIN. A violation or an idle
line within the data bits: an invalid frame. 192 data bits: the frame is evaluated, DRAIN. -/
def State.receive (s : State) (cells : List LineCell) (burst : BurstEnd) : State :=
  let bits := s.line.rx.bits ++ bitsBeforeViolation cells
  let ends := hasViolation cells || burst == .idle
  if bits.length < 8 then
    if ends then { s with line := s.line.rxEnter .idle }
    else { s with line := { s.line with rx := { s.line.rx with bits := bits } } }
  else if bits.take 8 ≠ preambleBits then
    { s with line := (s.line.rxEnter .drain).countError }
  else if (bits.drop 8).length < 192 then
    if ends then
      { s with line := (s.line.rxEnter (if burst = .idle then .idle else .drain)).countError }
    else { s with line := { s.line with rx := { s.line.rx with state := .data, bits := bits } } }
  else { s with line := s.line.rxEnter .drain }.evaluateFrame ((bits.drop 8).take 192)

/-- The level of PL_RXD after the cells. -/
def levelAfter (cells : List LineCell) (burst : BurstEnd) (before : Bool) : Bool :=
  if burst = .idle then true
  else match cells.getLast? with
    | some c => c.second
    | none => before

/-- The receiver is collecting a burst (Table 1-1). -/
def RxState.receiving : RxState → Bool
  | .preamble => true
  | .data => true
  | .idle => false
  | .drain => false
  | .echoCheck => false

/-- With these cells the burst reaches its 192nd data bit, at which the frame is evaluated (R5). -/
def State.reachesEvaluation (s : State) (cells : List LineCell) : Bool :=
  decide (200 ≤ (s.line.rx.bits ++ bitsBeforeViolation cells).length)

/-- A frame can be evaluated: the receive register is free (R69), and no change of the timer's mode is
outstanding at this boundary (R34, R35). -/
def State.canEvaluate (s : State) : Bool :=
  s.line.register.isNone && !s.due.resync && !s.timer.fallbackDue

/-- A burst can be taken further: the receiver collects one, and a frame that these cells complete can be
evaluated. -/
def State.canReceive (s : State) (cells : List LineCell) : Bool :=
  s.line.rx.state.receiving && (!s.reachesEvaluation cells || s.canEvaluate)

/-- CLAIM_FRAME_EVALUATED. -/
def execClaimFrameEvaluated (cells : List LineCell) (burst : BurstEnd) (s : State) :
    Host.Outcome State Fault Refusal :=
  s.act (s.canReceive cells) fun s =>
    { s with inputs := { s.inputs with plRxd := levelAfter cells burst s.inputs.plRxd } }.receive
      cells burst

/-! ### OWN_SLOT_START (R3, R10, R12, R40) -/

/-- The standing controller's answer: transmit in this slot (R40). -/
def StandingCtl.transmits (st : StandingCtl) : Bool :=
  match st.state with
  | .active => true
  | .backoff => decide (st.backoff = 0)
  | .isolated => decide (st.backoff = 0)
  | _ => false

/-- The answer makes the round a skipped round (R40). -/
def StandingCtl.skips (st : StandingCtl) : Bool :=
  match st.state with
  | .backoff => decide (0 < st.backoff)
  | .isolated => decide (0 < st.backoff)
  | _ => false

/-- The load of the pending half, with the echo-check result NOT_SENT (R12, R15). -/
def Line.load (l : Line) (h : Half) : Line := { l with pending := h, echo := .notSent }

/-- An own frame begins: PL_DE is asserted with the first half cell high (R3), and the receiver leaves
whatever state it is in for the echo check, a reception under way being counted once (R10). -/
def Line.beginFrame (l : Line) : Line :=
  { l with
    txActive := true, txAbandoned := false, txd := true,
    errors := if l.rx.state.receiving then min 65535 (l.errors + 1) else l.errors,
    rx := { l.rx with state := .echoCheck, bits := [] } }

/-- OWN_SLOT_START (R20): the load, then the transmit decision. The apply unit records the commit of this
load whether or not the claim is sent (R117). -/
def execOwnSlotStart (s : State) : Host.Outcome State Fault Refusal :=
  s.act s.due.ownSlot fun s =>
    { s with
      due := { s.due with ownSlot := false }
      line :=
        if s.standing.transmits then (s.line.load s.loadedHalf).beginFrame
        else s.line.load s.loadedHalf
      applyUnit := { s.applyUnit with lastCommit := s.applyUnit.grant }
      standing := { s.standing with skipped := s.standing.skips } }

/-! ### OWN_FRAME_END (R13, R14, R44 to R48) -/

/-- The back-off length for a failed-transmission count (R45): one more than a two-bit group of the
identity. -/
def backoffLength (identity : Identity) (failures : Nat) : Nat :=
  1 + (identity.toNat / 4 ^ ((failures - 1) % 16)) % 4

/-- The standing controller takes a good echo (R44, R47, R48). -/
def State.takeGoodEcho (s : State) : State :=
  match s.standing.state with
  | .backoff => { s with standing := s.standing.enter .active }
  | .isolated =>
    if 2 ≤ s.standing.goodRun + 1 then
      { s with standing := s.standing.enter .active }.raise .rejoined s.standing.pad
        (some s.standing.failures)
    else { s with standing := { s.standing with goodRun := s.standing.goodRun + 1 } }
  | _ => s

/-- The standing after a failure that leaves or puts it in a back-off: the count, its back-off length and
an empty good-echo run. -/
def State.backedOff (s : State) (new : Standing) (failures : Nat) : StandingCtl :=
  { s.standing with
    state := new, failures := failures, backoff := backoffLength s.identity failures, goodRun := 0 }

/-- The standing controller takes a failed echo (R44, R47, R48). -/
def State.takeFailedEcho (s : State) : State :=
  let k := min 255 (s.standing.failures + 1)
  match s.standing.state with
  | .active => { s with standing := s.backedOff .backoff 1 }
  | .backoff =>
    if k = 6 then
      { s with standing := s.backedOff .isolated 6 }.raise .isolated s.standing.pad (some 6)
    else { s with standing := s.backedOff .backoff k }
  | .isolated => { s with standing := s.backedOff .isolated k }
  | _ => s

/-- The end of an own frame (R3, R10): PL_DE is deasserted and the receiver enters DRAIN. The spec gives no
level of PL_TXD from here (log entry 11). -/
def Line.endFrame (l : Line) (txd : Bool) : Line :=
  { l with
    txActive := false, txAbandoned := false, txd := txd, rx := { l.rx with state := .drain, bits := [] } }

/-- The halves exchange roles and the echo is judged (R13, R14). -/
def Line.exchange (l : Line) (good : Bool) : Line :=
  { l with pending := l.sent, sent := l.pending, echo := if good then .good else .failed }

/-- Both halves hold the reset claim and the echo-check result is NOT_SENT (R17). -/
def Line.clearBuffer (l : Line) : Line :=
  { l with pending := Half.reset, sent := Half.reset, echo := .notSent }

/-- The end of the own frame at the line interface. After a PORT RESET there is no exchange, and the buffer
is reset (R17). -/
def State.endOwnFrame (s : State) (good : Bool) : State :=
  let ended := s.line.endFrame (Config.txdAfterFrame s.free)
  { s with
    line := if s.line.txAbandoned then ended.clearBuffer else ended.exchange good
    free := s.free + 1 }

/-- OWN_FRAME_END (R14): at the 200th cell the echo is judged and the standing controller takes the result
at the same instant; a frame that PORT RESET abandoned is not taken (R54). -/
def execOwnFrameEnd (readBack : List LineCell) (s : State) : Host.Outcome State Fault Refusal :=
  s.act s.line.txActive fun s =>
    let good := echoGood s.line.pending readBack
    let s1 := { s with
      inputs := { s.inputs with plRxd := levelAfter readBack .running s.inputs.plRxd } }.endOwnFrame good
    if s.line.txAbandoned then s1
    else if good then s1.takeGoodEcho
    else s1.takeFailedEcho

end Sys2Proof.Machine
end

