-- ==== Sys2Proof/Machine/Port.lean ====
section
/-! DEFINITION. The transactions of the charger port (R174 to R177): TRANSACTION_OPEN, TRANSACTION_CLOSE,
BYTE_CLOCKED, UNKNOWN_COMMAND. -/

namespace Sys2Proof.Machine

/-- The port at the assertion of CP_SEL (R175); CP_DOUT is driven from then on (R174), and no byte has been
clocked. -/
def Port.opened (p : Port) : Port :=
  { p with txn := .command, assembly := [], response := none, readPos := 0, dout := none }

/-- TRANSACTION_OPEN (R175). A frame completed earlier is taken first (log entry 28). -/
def execTransactionOpen (s : State) : Host.Outcome State Fault Refusal :=
  s.act (s.port.txn == .closed && s.port.ready.isNone) fun s =>
    { s with inputs := { s.inputs with cpSel := false }, port := s.port.opened }

/-- The port at the deassertion of CP_SEL (R175, R176): a frame cut short is dropped, and what is left of a
response is lost, that of a command still waiting included. -/
def Port.closed (p : Port) : Port :=
  { p with
    txn := .closed
    assembly := []
    response := none
    readPos := 0
    waiting := p.waiting.map fun w => { w with responseLost := true }
    dout := none }

/-- TRANSACTION_CLOSE (R176). -/
def execTransactionClose (s : State) : Host.Outcome State Fault Refusal :=
  s.act (s.port.txn != .closed) fun s =>
    { s with inputs := { s.inputs with cpSel := true }, port := s.port.closed }

/-- A byte clocked in COMMAND joins the frame; a complete frame moves the port to EXECUTE (R175). -/
def Port.collect (p : Port) (b : Byte) : Port :=
  let frame := p.assembly ++ [b]
  { p with
    txn := if frameComplete frame then .execute else .command
    assembly := if frameComplete frame then [] else frame
    ready := if frameComplete frame then some frame else p.ready }

/-- The response goes on, once the byte at a read position has been clocked out (R176). -/
def Port.send (p : Port) (response : List Byte) (pos : Nat) : Port :=
  { p with
    txn := if pos + 1 < response.length then .response else .spent
    readPos := pos + 1 }

/-- The transaction after a byte (Table 10-1): the byte clocked in counts in COMMAND only. -/
def Port.advance (p : Port) (b : Byte) : Port :=
  match p.txn with
  | .closed => p
  | .command => p.collect b
  | .execute =>
    match p.response with
    | some r => p.send r 0
    | none => p
  | .response => p.send (p.response.getD []) p.readPos
  | .spent => p

/-- The port after a byte: the byte that was next has been clocked out at the same time (R174). -/
def Port.clock (p : Port) (b : Byte) : Port := { p.advance b with dout := p.nextByte }

/-- BYTE_CLOCKED (R176). CP_DIN is left at the byte's last bit, and CP_CLK idles low (R174). -/
def execByteClocked (b : Byte) (s : State) : Host.Outcome State Fault Refusal :=
  s.act (s.port.txn != .closed) fun s =>
    { s with
      inputs := { s.inputs with cpDin := b.getLsbD 0, cpClk := false }
      port := s.port.clock b }

/-- A complete frame whose code byte names no command (R177). -/
def State.unknownReady (s : State) : Bool :=
  match s.port.ready with
  | some (c :: _) => !commandCodes.contains c
  | _ => false

/-- UNKNOWN_COMMAND (R177): REFUSED_FORMAT, or REFUSED_STATE from a busy port. -/
def execUnknownCommand (s : State) : Host.Outcome State Fault Refusal :=
  s.act s.unknownReady fun s => s.takeFrame (fun _ => false) false fun _ s => s

end Sys2Proof.Machine
end

