-- ==== Sys2Proof/Machine/Reads.lean ====
section
/-! DEFINITION. The reads of the charger port and RELEASE HELD's request (R182 to R186, R190): READ STATUS,
READ GRANT, READ VIEW, READ NOTICE, RELEASE HELD, IDENTIFY. -/

namespace Sys2Proof.Machine

/-! ### READ STATUS (R182) -/

/-- The delivered energy of the record, 0 where there is none (R182). -/
def Session.deliveredEnergy (q : Session) : Nat :=
  match q.record with
  | some r => r.delivered
  | none => 0

/-- A count as READ STATUS shows it: 0 before SETUP, where the line error count runs all the same (R9, R182). -/
def State.shownCount (s : State) (count : Nat) : Nat := if s.configured then count else 0

/-- The data of READ STATUS (R182, Table 11-5). -/
def State.statusBytes (s : State) : List Byte :=
  byte1 (standingCode s.standing.state) ++ byte1 (sessionCode s.session.state)
    ++ byte1 (flagBit 0 (s.port.resetCause == .port) + flagBit 1 s.limit.inForce
        + flagBit 2 s.notices.lost)
    ++ byte1 (s.shownCount s.view.liveCount) ++ byte1 (s.shownCount s.view.staleCount)
    ++ byte1 (s.shownCount s.view.heldCount) ++ byte1 (s.shownCount s.view.adoptedCount)
    ++ byte2 (s.shownCount s.line.errors) ++ byte1 s.session.reportAge
    ++ byte2 s.session.deliveredEnergy ++ byte1 s.notices.queue.length

/-- READ STATUS: the values of this instant, and the lost-notice flag is cleared (R182). -/
def execReadStatus (s : State) : Host.Outcome State Fault Refusal :=
  s.act (s.frameReady codeReadStatus) fun s =>
    s.takeFrame (lengthIs 0) false fun _ s =>
      { s with notices := { s.notices with lost := false } }.respond (responseFrame rspDone s.statusBytes)

/-! ### READ GRANT (R183) -/

/-- The data of READ GRANT (Table 11-5). -/
def State.grantBytes (s : State) : List Byte :=
  let p := s.share.published
  byte2 p.stamp.toNat ++ byte1 (flagBit 0 p.ownParticipant) ++ byte2 p.ownShare ++ byte2 p.feederBudget
    ++ byte2 p.ownBranchBudget ++ byte1 p.participantCount ++ byte2 p.lastLevel ++ byte1 p.fillCount
    ++ byte2 s.applyUnit.applied ++ byte2 s.applyUnit.grant ++ byte2 s.applyUnit.lastCommit

/-- READ GRANT. -/
def execReadGrant (s : State) : Host.Outcome State Fault Refusal :=
  s.act (s.frameReady codeReadGrant) fun s =>
    s.takeFrame (lengthIs 0) true fun _ s => s.respond (responseFrame rspDone s.grantBytes)

/-! ### READ VIEW (R184) -/

/-- The start byte that stands for "continue" (Table 11-3). -/
def continueByte : Nat := 0xFF

/-- The parameters of READ VIEW that are not refused: a start pad 0 to 35 or "continue", a count of 1 to 6
(R184). -/
def viewParamsOk (ps : List Byte) : Bool :=
  (decide (param1 ps 0 < Config.pads) || decide (param1 ps 0 = continueByte))
    && decide (1 ≤ param1 ps 1) && decide (param1 ps 1 ≤ 6)

/-- The READ VIEW that waits for the store: its start, its count and its skip-empty flag. -/
def viewRequest (ps : List Byte) : WaitingCommand :=
  .readView (if param1 ps 0 = continueByte then none else some (param1 ps 0)) (param1 ps 1)
    ((param1 ps 2).testBit 0)

/-- A command waits for the view store as the charger port's requester (R68, R176). -/
def State.waitForStore (s : State) (c : WaitingCommand) (a : Access) : State :=
  { s.wait c with store := s.store.request a }

/-- READ VIEW. -/
def execReadView (s : State) : Host.Outcome State Fault Refusal :=
  s.act (s.frameReady codeReadView) fun s =>
    s.takeFrame (lengthIs 3) true fun ps s =>
      if viewParamsOk ps then s.waitForStore (viewRequest ps) .readView else s.refuse rspRefusedFormat

/-! ### READ NOTICE (R190) -/

/-- The queue without its oldest notice; ATTN is deasserted when it becomes empty (R189, R190). -/
def NoticeQueue.pop (q : NoticeQueue) : NoticeQueue :=
  { q with queue := q.queue.tail, attn := !q.queue.tail.isEmpty }

/-- The data of READ NOTICE: the oldest notice, or nothing (Table 11-5). -/
def NoticeQueue.oldestBytes (q : NoticeQueue) : List Byte :=
  match q.queue with
  | n :: _ => noticeBytes n
  | [] => []

/-- READ NOTICE. -/
def execReadNotice (s : State) : Host.Outcome State Fault Refusal :=
  s.act (s.frameReady codeReadNotice) fun s =>
    s.takeFrame (lengthIs 0) false fun _ s =>
      { s with notices := s.notices.pop }.respond (responseFrame rspDone s.notices.oldestBytes)

/-! ### RELEASE HELD (R185) -/

/-- The length byte is 1 + 2n for the range count n that the frame carries (Table 11-3). -/
def releaseLengthOk (ps : List Byte) : Bool := decide (ps.length = 1 + 2 * param1 ps 0)

/-- The parameters of RELEASE HELD that are not refused: 1 to 8 ranges of 1 to 36 pads (R185). -/
def releaseParamsOk (ps : List Byte) : Bool :=
  decide (1 ≤ param1 ps 0) && decide (param1 ps 0 ≤ 8)
    && (rangesOfParams ps).all fun r => decide (1 ≤ r.2) && decide (r.2 ≤ Config.pads)

/-- RELEASE HELD. -/
def execReleaseHeld (s : State) : Host.Outcome State Fault Refusal :=
  s.act (s.frameReady codeReleaseHeld) fun s =>
    s.takeFrame releaseLengthOk true fun ps s =>
      if releaseParamsOk ps then s.waitForStore (.releaseHeld (rangesOfParams ps)) .releaseHeld
      else s.refuse rspRefusedFormat

/-! ### IDENTIFY (R186) -/

/-- The data of IDENTIFY (Table 11-5). -/
def State.identifyBytes (s : State) (straps : BitVec 6) : List Byte :=
  byte4 s.identity.toNat ++ byte1 straps.toNat ++ byte1 (s.standing.pad.getD 0xFF)
    ++ byte2 Config.productCode ++ byte1 Config.revisionCode ++ configBytes s.cfg

/-- IDENTIFY, with the strap pins as they read. -/
def execIdentify (straps : BitVec 6) (s : State) : Host.Outcome State Fault Refusal :=
  s.act (s.frameReady codeIdentify) fun s =>
    s.takeFrame (lengthIs 0) false fun _ s =>
      { s with inputs := { s.inputs with straps := straps } }.respond
        (responseFrame rspDone (s.identifyBytes straps))

end Sys2Proof.Machine
end

