-- ==== Sys2Proof/Machine/Dock.lean ====
section
/-! DEFINITION. The dock input at the session controller (R157, R158, R161): QUALIFIED_DOCK_ASSERTION and
DOCK_LOSS. -/

namespace Sys2Proof.Machine

/-- The qualified dock level changes (R157). -/
def State.changeDock (s : State) : State :=
  { s with qual := { s.qual with dock := s.qual.dock.change } }

/-- The state to which a qualified dock assertion takes the session (R157, R158): DOCKED from VACANT, once
SETUP has been accepted. -/
def State.assertedTarget (s : State) : SessionState :=
  if s.configured = true ∧ s.session.state = .vacant then .docked else s.session.state

/-- QUALIFIED_DOCK_ASSERTION. -/
def execQualifiedDockAssertion (s : State) : Host.Outcome State Fault Refusal :=
  s.act (s.dockChangeDue && !s.docked) fun s => s.changeDock.setSession s.assertedTarget .dockAsserted

/-- A dock loss is held until the turn decision has been taken (R138). -/
def State.holdEvent (s : State) (e : HeldEvent) : State :=
  { s with session := { s.session with held := s.session.held ++ [e] } }

/-- DOCK_LOSS (R161): no effect on the session before SETUP (R157), held during a turn decision of which the
own station is a candidate (R138), and taken at once otherwise. -/
def execDockLoss (s : State) : Host.Outcome State Fault Refusal :=
  s.act (s.dockChangeDue && s.docked) fun s =>
    if !s.configured then s.changeDock
    else if s.holdsEvents then s.changeDock.holdEvent .dockLoss
    else s.changeDock.takeDockLoss

end Sys2Proof.Machine
end

