-- ==== Sys2Proof/Machine/Setup.lean ====
section
/-! DEFINITION. SETUP (R38, R39, R141, R157, R178). -/

namespace Sys2Proof.Machine

/-- The round timer enters SEARCH at an instant (R32, R37): no round, no candidate, no target; the clock
keeps its phase, and the counters are kept. DESIGN CHOICE (log entry 39): the next period start stays where
it was, 250 us after the start of the period in progress, for an instant in the lengthened part of slot period
39 too, where it then lies before that instant; the spec does not say when the next period starts there. -/
def Timer.enterSearch (t : Timer) (instant : Int) : Timer :=
  { t with
    mode := .search, slot := none, searchStart := instant, reference := none, misaligned := 0, silence := 0,
    target := none, inGap := false, lastBoundary := none }

/-- A confirm state at the acceptance of SETUP: the drive is off, so an open feedback agrees. A closed one
becomes FAILED and raises a contactor fault, as an unexpected closure (R141, R142). -/
def State.settleConfirm (s : State) (c : Contactor) : State :=
  if s.feedback c then s.contactorFault c (movedAwayCode c false)
  else { s with seq := s.seq.setConfirm c .agreed }

/-- Both confirm states at the acceptance of SETUP, PRE first. -/
def State.settleConfirms (s : State) : State := (s.settleConfirm .pre).settleConfirm .main

/-- The session at the acceptance of SETUP (R157). -/
def State.settleDock (s : State) : State :=
  s.setSession (if s.docked = true ∧ s.session.state = .vacant then .docked else s.session.state) .setup

/-- The configuration, the pad number and the entry into ACQUIRE and SEARCH (R39, R178). -/
def State.configure (s : State) (cfg : Setup) (pad : Nat) (instant : Nat) : State :=
  { s with
    cfg := cfg
    standing := { s.standing.enter .acquire with pad := some pad, skipped := false }
    timer := s.timer.enterSearch (s.timer.periodStart + (instant : Int)) }

/-- The contactor sequencer's and the session's part, in an order that the spec leaves open (R188; log
entry 9). -/
def State.settle (s : State) : State :=
  let s1 := { s with free := s.free + 1 }
  if Config.firstBlockFirst s.free then s1.settleDock.settleConfirms else s1.settleConfirms.settleDock

/-- An accepted SETUP and its response (R178). -/
def State.takeSetup (s : State) (ps : List Byte) (pad : Nat) (instant : Nat) : State :=
  let asked := setupOfParams ps
  (s.configure (clampSetup asked) pad instant).settle.respond
    (clampedResponse (setupClampMask asked (clampSetup asked)) (configBytes (clampSetup asked)))

/-- The strap pins are read (R38, R186, R193). -/
def State.readStraps (s : State) (straps : BitVec 6) : State :=
  { s with inputs := { s.inputs with straps := straps } }

/-- SETUP, with the strap pins as they read; the checks of R177 in their order. -/
def execSetup (straps : BitVec 6) (instant : Nat) (s : State) : Host.Outcome State Fault Refusal :=
  s.act (s.frameReady codeSetup) fun s =>
    s.takeFrame (lengthIs 15) false fun ps s =>
      if s.configured then s.refuse rspRefusedLocked
      else if 5 < param1 ps 0 then s.refuse rspRefusedFormat
      else if Config.pads ≤ straps.toNat then (s.readStraps straps).refuse rspRefusedState
      else (s.readStraps straps).takeSetup ps straps.toNat instant

end Sys2Proof.Machine
end

