-- ==== Sys2Proof/Machine/Reset.lean ====
section
/-! DEFINITION. The resets: POWER_ON_RESET and RESET_END (R193 and the power-on rule of each chapter), and
PORT_RESET (R187 and the port-reset rule of each chapter). -/

namespace Sys2Proof.Machine

/-! ### PORT RESET -/

/-- The line interface (R17): at once, or at the end of the own frame in transmission. -/
def Line.portReset (l : Line) : Line :=
  if l.txActive then { l with txAbandoned := true } else l.clearBuffer

/-- The curtail side of the limit unit (R94). DESIGN CHOICE (log entry 46): the limits in force and the budgets,
which R94 does not name, are kept. -/
def Limit.portReset (l : Limit) : Limit :=
  { l with assertionSeen := false, levelSeen := false, ownCurtail := false, inForce := false }

/-- The qualified inputs (R94, R152, R173): the dock input is kept. -/
def Qualifiers.portReset (q : Qualifiers) : Qualifiers :=
  { q with curtail := QInput.powerOn, preFb := QInput.powerOn, mainFb := QInput.powerOn }

/-- The share engine (R114): a computation in progress is discarded, the published results are kept. DESIGN
CHOICE (log entry 21): the discarded fill figures read 0 and empty. -/
def Share.portReset (sh : Share) : Share :=
  if sh.phase = .none then sh else { Share.powerOn with published := sh.published }

/-- The apply unit (R132). A pulse on SPCHG keeps its time (log entry 24). -/
def ApplyUnit.portReset (a : ApplyUnit) : ApplyUnit := { ApplyUnit.powerOn with spchg := a.spchg }

/-- The session controller (R173). -/
def State.sessionAtPortReset (s : State) : Session :=
  { Session.powerOn with state := if s.docked then .docked else .vacant }

/-- An accepted PORT RESET (R187): every block's part at once, and the request for the view part. DESIGN CHOICE:
the candidate order and the given turns, which R152 does not list, are emptied with the rest of the turn planner
(log entry 41); and the port counts as busy until the view part has ended, so that a frame completed until then
is refused with REFUSED_STATE, although the command has been taken (R176; log entry 42). -/
def State.takePortReset (s : State) (instant : Nat) : State :=
  { s with
    line := s.line.portReset
    qual := s.qual.portReset
    timer := s.timer.enterSearch (s.timer.periodStart + (instant : Int))
    standing := { s.standing.enter .acquire with skipped := false }
    limit := s.limit.portReset
    share := s.share.portReset
    applyUnit := s.applyUnit.portReset
    turn := Turn.powerOn
    seq := Seq.powerOn
    session := s.sessionAtPortReset
    notices := NoticeQueue.powerOn
    port :=
      { s.port with
        resetCause := .port
        waiting := some { command := .portReset, responseLost := s.port.txn != .execute } }
    store := s.store.withdraw.request .portResetView
    due := { Due.nothing with spchgEnd := s.due.spchgEnd } }

/-- PORT RESET is allowed by the session and the drives (R187). -/
def State.resetAllowed (s : State) : Bool :=
  s.session.state.resettable && !s.seq.preDrive && !s.seq.mainDrive

/-- PORT_RESET, at an instant of the slot period in progress. -/
def execPortReset (instant : Nat) (s : State) : Host.Outcome State Fault Refusal :=
  s.act (s.frameReady codePortReset) fun s =>
    s.takeFrame (lengthIs 0) true fun _ s =>
      if s.resetAllowed then s.takePortReset instant else s.refuse rspRefusedState

/-! ### Power-on reset -/

/-- The condition is a reset: a low pulse on RST_N shorter than 2 us is ignored (R193; log entry 36). -/
def resets : ResetCondition → Bool
  | .rstLow units => decide (Config.resetPulseUnits ≤ units)
  | .vddLow => true

/-- The input pins that the condition shows. -/
def InputPins.atReset (p : InputPins) : ResetCondition → InputPins
  | .rstLow _ => { p with rstN := false }
  | .vddLow => { p with vddOk := false }

/-- Every block at the power-on values of its chapter, with power-on reset held (R193). -/
def State.powerOn (s : State) (cause : ResetCondition) : State :=
  { State.reset with
    identity := s.identity
    resetHeld := true
    inputs := s.inputs.atReset cause
    free := s.free
    pending := s.pending }

/-- POWER_ON_RESET. It is taken whether or not a reset is held already. -/
def execPowerOnReset (cause : ResetCondition) (s : State) : Host.Outcome State Fault Refusal :=
  .next (if resets cause then s.powerOn cause else s)

/-- The end of the reset (R193): a transaction whose CP_SEL is asserted then is taken as opened (R191). -/
def State.endReset (s : State) (cpSelAsserted : Bool) : State :=
  { s with
    resetHeld := false
    inputs := { s.inputs with rstN := true, vddOk := true, cpSel := !cpSelAsserted }
    port := if cpSelAsserted then s.port.opened else s.port }

/-- RESET_END: power-on reset ends when RST_N is high and VDD above its threshold (R193). -/
def execResetEnd (rstN vddOk cpSelAsserted : Bool) (s : State) : Host.Outcome State Fault Refusal :=
  .next (if s.resetHeld && rstN && vddOk then s.endReset cpSelAsserted else s)

end Sys2Proof.Machine
end

