-- ==== Sys2Proof/Machine/Turns.lean ====
section
/-! DEFINITION. The turn planner (R135 to R139) and TURN_DECISION. -/

namespace Sys2Proof.Machine

/-! ### Candidates and their order (R135, R137) -/

/-- A peer entry as a candidate: LIVE, heard, intent CONNECT (R135). -/
def Entry.candidate (e : Entry) (pad : Nat) : Option Candidate :=
  match e.claim with
  | some c =>
    if e.state = .live ∧ e.heard = true ∧ c.intent = .connect then
      some { pad, branch := c.branch, age := c.intentAge }
    else none
  | none => none

/-- The candidates of a round, by pad: the peers of the snapshot, and the own candidate as the compute
point fixed it (R135, R138). -/
def Snapshot.candidates (snap : Snapshot) (own : Option Nat) (ownCandidate : Option Candidate) :
    List Candidate :=
  (List.range Config.pads).filterMap fun p =>
    if some p = own then ownCandidate else (snap.entries.getD p Entry.blank).candidate p

/-- The candidate order: descending intent age, ascending pad among equal ages (R137). -/
def Candidate.before (a b : Candidate) : Bool :=
  decide (b.age < a.age) || (decide (a.age = b.age) && decide (a.pad < b.pad))

/-- Insert a candidate at its place in an ordered list. -/
def insertCandidate (c : Candidate) : List Candidate → List Candidate
  | [] => [c]
  | d :: ds => if c.before d then c :: d :: ds else d :: insertCandidate c ds

/-- The candidates in their order (R137). -/
def orderCandidates (cs : List Candidate) : List Candidate := cs.foldr insertCandidate []

/-! ### SWITCHED claims and blocked branches (R136, R139) -/

/-- A claim heard this round with intent SWITCHED: its pad and branch. -/
structure SwitchedClaim where
  pad : Nat
  branch : Nat
  deriving DecidableEq, Repr

/-- A peer's SWITCHED claim, if its entry was heard with one (R136). -/
def Entry.switchedClaim (e : Entry) (pad : Nat) : Option SwitchedClaim :=
  match e.claim with
  | some c => if e.heard = true ∧ c.intent = .switched then some { pad, branch := c.branch } else none
  | none => none

/-- The own SWITCHED claim, if this round's claim was sent with one; it counts on the own branch (R136). -/
def Snapshot.ownSwitched (snap : Snapshot) (pad branch : Nat) : Option SwitchedClaim :=
  if snap.echo ≠ .notSent ∧ snap.own.intent = .switched then some { pad, branch } else none

/-- The SWITCHED claims heard this round, in ascending pad order (R136). -/
def Snapshot.switchedClaims (snap : Snapshot) (own : Option Nat) (branch : Nat) : List SwitchedClaim :=
  (List.range Config.pads).filterMap fun p =>
    if some p = own then snap.ownSwitched p branch
    else (snap.entries.getD p Entry.blank).switchedClaim p

/-- The SWITCHED claims on a branch. -/
def onBranch (cs : List SwitchedClaim) (branch : Nat) : List SwitchedClaim :=
  cs.filter fun c => c.branch == branch

/-- A clash (R139): two SWITCHED claims on one branch, or three in all. -/
def clashes (cs : List SwitchedClaim) : Bool :=
  decide (3 ≤ cs.length) || (List.range Config.branches).any fun b => decide (2 ≤ (onBranch cs b).length)

/-- The pad of TURN_CLASH: the lowest pad among the SWITCHED claims on the lowest branch that carries two or
more of them (R139). -/
def clashPad (cs : List SwitchedClaim) : Option Nat :=
  match (List.range Config.branches).find? fun b => decide (2 ≤ (onBranch cs b).length) with
  | some b => ((onBranch cs b).head?).map SwitchedClaim.pad
  | none => none

/-! ### The walk (R137) -/

/-- A candidate gets a turn (R137): no curtailment, its branch not blocked, none given on it, fewer than two
given. -/
def getsTurn (curtailed : Bool) (blocked : List Nat) (given : List Candidate) (c : Candidate) : Bool :=
  !curtailed && !blocked.contains c.branch && !(given.map Candidate.branch).contains c.branch
    && decide (given.length < 2)

/-- The walk down the candidate order; answers the turns given (R137). -/
def walkTurns (curtailed : Bool) (blocked : List Nat) (given : List Candidate) :
    List Candidate → List Candidate
  | [] => given
  | c :: cs =>
    if getsTurn curtailed blocked given c then walkTurns curtailed blocked (given ++ [c]) cs
    else walkTurns curtailed blocked given cs

/-! ### TURN_DECISION (R138) -/

/-- TURN_CLASH where the claims heard clash (R139). -/
def State.noteClash (s : State) (cs : List SwitchedClaim) : State :=
  if clashes cs then s.raise .turnClash (clashPad cs) (some cs.length) else s

/-- The own turn is handed over: the session goes from INTENT to PRECHARGE and the phase to TURN_TAKEN. A
session that has left INTENT takes none, and none is handed over after a conflict or a contactor fault since
the compute point, even where a DOCK has brought the session back to INTENT (R138, R162). -/
def State.handOwnTurn (s : State) : State :=
  let taken := s.turn.ownTurn = true ∧ s.session.state = .intent ∧ s.turn.barred = false
  { s.setSession (if taken then .precharge else s.session.state) .turn with
    seq := if taken then { s.seq with phase := .turnTaken } else s.seq }

/-- The answer of an END: DONE with the session state, where it was accepted (R181). -/
def endAnswer (accepted : Bool) (after : SessionState) : List Byte :=
  if accepted then responseFrame rspDone (byte1 (sessionCode after))
  else responseFrame rspRefusedState []

/-- A held END is taken after the decision: checked against the state of that instant, then answered
(R138, R181). -/
def State.takeHeldEnd (s : State) : State :=
  if s.session.state.charging then s.takeEnd.answerWaiting (endAnswer true s.takeEnd.session.state)
  else s.answerWaiting (endAnswer false s.session.state)

/-- A held event is taken (R138). -/
def State.takeHeld (s : State) : HeldEvent → State
  | .endCommand => s.takeHeldEnd
  | .dockLoss => s.takeDockLoss

/-- An END that waits although it is no longer held was discarded by an entry into FAULT (R163): it is
answered as one taken in FAULT is (R177, R181; log entry 19). -/
def State.answerDiscardedEnd (s : State) : State :=
  match s.port.waiting with
  | some { command := .endCommand, .. } => s.answerWaiting (endAnswer false s.session.state)
  | _ => s

/-- The held events are taken in the order in which they arrived (R138). -/
def State.takeAllHeld (s : State) : State :=
  (s.session.held.foldl State.takeHeld
    { s with session := { s.session with held := [] } }).answerDiscardedEnd

/-- The planner's walk over a snapshot (R136, R137). -/
def State.planTurns (s : State) (snap : Snapshot) : State :=
  let cs := snap.switchedClaims s.standing.pad s.cfg.branch
  let order := orderCandidates (snap.candidates s.standing.pad s.turn.ownCandidate)
  let given := walkTurns s.limit.inForce (cs.map SwitchedClaim.branch) [] order
  { s with
    turn :=
      { s.turn with
        order := order
        given := given
        ownTurn := given.any fun c => some c.pad == s.standing.pad
        deciding := false } }.noteClash cs

/-- The decision can be taken: it is outstanding and the snapshot copy has been granted (R138). -/
def State.canDecide (s : State) : Bool := s.turn.deciding && s.share.snapshot.isSome

/-- TURN_DECISION (R137 to R139): the clash check, the walk, the own turn, then the held events. -/
def execTurnDecision (s : State) : Host.Outcome State Fault Refusal :=
  s.act s.canDecide fun s =>
    match s.share.snapshot with
    | some snap => (s.planTurns snap).handOwnTurn.takeAllHeld
    | none => s

end Sys2Proof.Machine
end

