-- ==== Sys2Proof/Machine/SessionCommands.lean ====
section
/-! DEFINITION. The commands of a session (R155, R156, R160, R163, R165, R179 to R181): REPORT, DOCK,
UPDATE VEHICLE, END, CLEAR FAULT. -/

namespace Sys2Proof.Machine

/-! ### REPORT (R165, R179) -/

/-- The measured power of a REPORT frame, clamped (R165). -/
def reportedPower (ps : List Byte) : Nat := min 1023 (param2 ps 0)

/-- The effect of a REPORT and its response. -/
def State.takeReport (s : State) (ps : List Byte) : State :=
  { s with session := { s.session with lastMeasured := reportedPower ps, reportAge := 0 } }.respond
    (clampedResponse (flagBit 0 (decide (1023 < param2 ps 0))) (byte2 (reportedPower ps)))

/-- REPORT. -/
def execReport (s : State) : Host.Outcome State Fault Refusal :=
  s.act (s.frameReady codeReport) fun s => s.takeFrame (lengthIs 2) true fun ps s => s.takeReport ps

/-! ### DOCK (R155, R180) -/

/-- A field of a frame, present where its presence bit is set (R192). -/
def markedField (marks bit value : Nat) : Option Nat := if marks.testBit bit then some value else none

/-- The fields of a vehicle as a frame carries them, absent where they are not marked. -/
structure Carried where
  maxAccept : Option Nat
  floor : Option Nat
  energyNeeded : Option Nat
  departure : Option Nat
  classByte : Option Nat
  deriving DecidableEq, Repr

/-- The fields of a DOCK frame (Table 11-3). -/
def dockFields (ps : List Byte) : Carried :=
  { maxAccept := some (param2 ps 5)
    floor := markedField (param1 ps 0) 0 (param2 ps 7)
    energyNeeded := some (param2 ps 9)
    departure := markedField (param1 ps 0) 1 (param2 ps 11)
    classByte := markedField (param1 ps 0) 2 (param1 ps 13) }

/-- The maximum accept that carried fields give a record (R155). -/
def Carried.newMaxAccept (c : Carried) (old : Nat) : Nat :=
  match c.maxAccept with
  | some n => min 1000 n
  | none => old

/-- The floor before its clamp to the maximum accept. -/
def Carried.askedFloor (c : Carried) (old : Option Nat) : Option Nat := c.floor.or old

/-- A record with the carried fields written and clamped; the floor is clamped to the maximum accept as it
then stands (R155, R156). -/
def Record.write (r : Record) (c : Carried) : Record :=
  { r with
    maxAccept := c.newMaxAccept r.maxAccept
    floor := (c.askedFloor r.floor).map fun f => min f (c.newMaxAccept r.maxAccept)
    energyNeeded := match c.energyNeeded with
      | some n => min 9999 n
      | none => r.energyNeeded
    departure := c.departure.or r.departure
    vehicleClass := (c.classByte.map classOfCode).or r.vehicleClass }

/-- A carried number lies above a limit. -/
def above (limit : Nat) : Option Nat → Bool
  | some n => decide (limit < n)
  | none => false

/-- The clamp mask of DOCK and UPDATE VEHICLE (11, section 11.2): maximum accept, floor, energy needed,
class. -/
def Carried.clampMask (c : Carried) (r : Record) : Nat :=
  flagBit 0 (above 1000 c.maxAccept)
    + flagBit 1 (above (c.newMaxAccept r.maxAccept) (c.askedFloor r.floor))
    + flagBit 2 (above 9999 c.energyNeeded) + flagBit 3 (above 1 c.classByte)

/-- A record of a vehicle before its fields are written: delivered energy and the accumulator at 0
(R155). -/
def freshRecord (vehicle : Identity) : Record :=
  { vehicle := vehicle, maxAccept := 0, floor := none, energyNeeded := 0, departure := none,
    vehicleClass := none, delivered := 0, accumulator := 0 }

/-- The vehicle identity of a DOCK frame. -/
def dockVehicle (ps : List Byte) : Identity := BitVec.ofNat 32 (param4 ps 1)

/-- The record that a DOCK builds (R155). -/
def dockRecord (ps : List Byte) : Record := (freshRecord (dockVehicle ps)).write (dockFields ps)

/-- DOCK in DOCKED or RELEASED: the new record, the overdraw run 0, and INTENT (R155, R158). -/
def State.takeDock (s : State) (ps : List Byte) : State :=
  let r := dockRecord ps
  ({ s with session := { s.session with record := some r, overdrawRun := 0 } }.setSession .intent
      .dockCommand).respond
    (clampedResponse ((dockFields ps).clampMask (freshRecord (dockVehicle ps)))
      (recordBytes .intent (some r)))

/-- The session states in which DOCK is accepted (R155). -/
def SessionState.acceptsDock : SessionState → Bool
  | .docked => true
  | .released => true
  | _ => false

/-- DOCK. -/
def execDock (s : State) : Host.Outcome State Fault Refusal :=
  s.act (s.frameReady codeDock) fun s =>
    s.takeFrame (lengthIs 14) true fun ps s =>
      if s.session.state.acceptsDock then s.takeDock ps else s.refuse rspRefusedState

/-! ### UPDATE VEHICLE (R156, R180) -/

/-- The fields of an UPDATE VEHICLE frame (Table 11-3). -/
def updateFields (ps : List Byte) : Carried :=
  { maxAccept := markedField (param1 ps 0) 0 (param2 ps 1)
    floor := markedField (param1 ps 0) 1 (param2 ps 3)
    energyNeeded := markedField (param1 ps 0) 2 (param2 ps 5)
    departure := markedField (param1 ps 0) 3 (param2 ps 7)
    classByte := markedField (param1 ps 0) 4 (param1 ps 9) }

/-- The clamp mask of an UPDATE VEHICLE. -/
def State.updateMask (s : State) (ps : List Byte) : Nat :=
  match s.session.record with
  | some r => (updateFields ps).clampMask r
  | none => 0

/-- UPDATE VEHICLE in INTENT, PRECHARGE or CONNECTED: the marked fields are written (R156). -/
def State.takeUpdate (s : State) (ps : List Byte) : State :=
  let record := s.session.record.map fun r => r.write (updateFields ps)
  { s with session := { s.session with record := record } }.respond
    (clampedResponse (s.updateMask ps) (recordBytes s.session.state record))

/-- UPDATE VEHICLE. -/
def execUpdateVehicle (s : State) : Host.Outcome State Fault Refusal :=
  s.act (s.frameReady codeUpdateVehicle) fun s =>
    s.takeFrame (lengthIs 10) true fun ps s =>
      if s.session.state.charging then s.takeUpdate ps else s.refuse rspRefusedState

/-! ### END (R160, R181) -/

/-- END that is not held: it acts on the session, or is refused by its state (R160). -/
def State.endNow (s : State) : State :=
  if s.session.state.charging then
    s.takeEnd.respond (endAnswer true s.takeEnd.session.state)
  else s.refuse rspRefusedState

/-- END: held during a turn decision of which the own station is a candidate, with the port in EXECUTE
(R138, R181). -/
def execEndCharge (s : State) : Host.Outcome State Fault Refusal :=
  s.act (s.frameReady codeEnd) fun s =>
    s.takeFrame (lengthIs 0) true fun _ s =>
      if s.holdsEvents then (s.holdEvent .endCommand).wait .endCommand else s.endNow

/-! ### CLEAR FAULT (R150, R163, R181) -/

/-- The sequencer allows the clear: both drives off and both qualified feedback states open (R150). -/
def State.clearAllowed (s : State) : Bool :=
  !s.seq.preDrive && !s.seq.mainDrive && !s.feedback .pre && !s.feedback .main

/-- The sequencer after an accepted clear (R150). -/
def Seq.cleared (q : Seq) : Seq :=
  { q with preConfirm := .agreed, mainConfirm := .agreed, openMode := .none, prechargeCount := 0,
           phase := .idle }

/-- CLEAR FAULT in FAULT: the sequencer returns to IDLE and the session to RELEASED or VACANT
(R150, R163). -/
def State.takeClear (s : State) : State :=
  { s with seq := s.seq.cleared }.setSession s.restState .clearFault

/-- CLEAR FAULT. -/
def execClearFault (s : State) : Host.Outcome State Fault Refusal :=
  s.act (s.frameReady codeClearFault) fun s =>
    s.takeFrame (lengthIs 0) true fun _ s =>
      if s.session.state = .fault ∧ s.clearAllowed = true then
        s.takeClear.respond (responseFrame rspDone (byte1 (sessionCode s.restState)))
      else s.refuse rspRefusedState

end Sys2Proof.Machine
end

