-- ==== Sys2Proof/Machine/Dispatch.lean ====
section
/-! DEFINITION. The meaning of every command: one arm for each row of the table. -/

namespace Sys2Proof.Machine

def exec (i : Instr) (s : State) : Host.Outcome State Fault Refusal :=
  match i with
  | .powerOnReset cause => Sys2Proof.Machine.execPowerOnReset cause s
  | .periodStart curt preFb mainFb dockSns => Sys2Proof.Machine.execPeriodStart curt preFb mainFb dockSns s
  | .qualifiedCurtailChange => Sys2Proof.Machine.execQualifiedCurtailChange s
  | .qualifiedFeedbackChange c => Sys2Proof.Machine.execQualifiedFeedbackChange c s
  | .qualifiedDockAssertion => Sys2Proof.Machine.execQualifiedDockAssertion s
  | .dockLoss => Sys2Proof.Machine.execDockLoss s
  | .claimFrameEvaluated cells burst => Sys2Proof.Machine.execClaimFrameEvaluated cells burst s
  | .claimFiled => Sys2Proof.Machine.execClaimFiled s
  | .ownSlotStart => Sys2Proof.Machine.execOwnSlotStart s
  | .ownFrameEnd readBack => Sys2Proof.Machine.execOwnFrameEnd readBack s
  | .computePoint => Sys2Proof.Machine.execComputePoint s
  | .snapshotCopy => Sys2Proof.Machine.execSnapshotCopy s
  | .completion => Sys2Proof.Machine.execCompletion s
  | .expectedCommitWrite => Sys2Proof.Machine.execExpectedCommitWrite s
  | .turnDecision => Sys2Proof.Machine.execTurnDecision s
  | .applyPoint => Sys2Proof.Machine.execApplyPoint s
  | .spchgPulseEnd => Sys2Proof.Machine.execSpchgPulseEnd s
  | .switchWindow => Sys2Proof.Machine.execSwitchWindow s
  | .sweepPoint => Sys2Proof.Machine.execSweepPoint s
  | .sweep => Sys2Proof.Machine.execSweep s
  | .roundBoundary => Sys2Proof.Machine.execRoundBoundary s
  | .oneSecondTick => Sys2Proof.Machine.execOneSecondTick s
  | .overdraw => Sys2Proof.Machine.execOverdraw s
  | .reportLost => Sys2Proof.Machine.execReportLost s
  | .confirmWindowExpired => Sys2Proof.Machine.execConfirmWindowExpired s
  | .misalignmentResync => Sys2Proof.Machine.execMisalignmentResync s
  | .searchSilenceExpired => Sys2Proof.Machine.execSearchSilenceExpired s
  | .realignTargetReached => Sys2Proof.Machine.execRealignTargetReached s
  | .realignSilenceFallback => Sys2Proof.Machine.execRealignSilenceFallback s
  | .transactionOpen => Sys2Proof.Machine.execTransactionOpen s
  | .transactionClose => Sys2Proof.Machine.execTransactionClose s
  | .unknownCommand => Sys2Proof.Machine.execUnknownCommand s
  | .setup straps instant => Sys2Proof.Machine.execSetup straps instant s
  | .report => Sys2Proof.Machine.execReport s
  | .dock => Sys2Proof.Machine.execDock s
  | .updateVehicle => Sys2Proof.Machine.execUpdateVehicle s
  | .endCharge => Sys2Proof.Machine.execEndCharge s
  | .clearFault => Sys2Proof.Machine.execClearFault s
  | .readStatus => Sys2Proof.Machine.execReadStatus s
  | .readGrant => Sys2Proof.Machine.execReadGrant s
  | .readView => Sys2Proof.Machine.execReadView s
  | .readViewAccess => Sys2Proof.Machine.execReadViewAccess s
  | .readNotice => Sys2Proof.Machine.execReadNotice s
  | .releaseHeld => Sys2Proof.Machine.execReleaseHeld s
  | .releaseHeldAccess => Sys2Proof.Machine.execReleaseHeldAccess s
  | .identify straps => Sys2Proof.Machine.execIdentify straps s
  | .portReset instant => Sys2Proof.Machine.execPortReset instant s
  | .portResetViewAccess => Sys2Proof.Machine.execPortResetViewAccess s
  | .frameStart transition => Sys2Proof.Machine.execFrameStart transition s
  | .lineIdle => Sys2Proof.Machine.execLineIdle s
  | .byteClocked byteIn => Sys2Proof.Machine.execByteClocked byteIn s
  | .resetEnd rstN vddOk cpSelAsserted => Sys2Proof.Machine.execResetEnd rstN vddOk cpSelAsserted s

end Sys2Proof.Machine
end

