-- ==== Sys2Proof/Safety.lean ====
section
/-! DEFINITION. The terms in which statements are made: the invariants of a good state, what a frame on the
line and a frame on the port look like, and how often a figure may change. -/

namespace Sys2Proof.Machine

/-! ### Commands of the port -/

/-- The command frame with this code and these parameters is complete, and the port is not busy with an
earlier command (R175, R177). -/
abbrev State.taking (s : State) (code : Byte) (ps : List Byte) : Prop :=
  s.resetHeld = false ∧ s.port.waiting = none
    ∧ s.port.ready = some (code :: BitVec.ofNat 8 ps.length :: ps)

/-- The port with the complete frame taken. -/
abbrev Port.taken (p : Port) : Port := { p with ready := none }

/-- The port with the complete frame taken and its response ready, or lost where the transaction has closed
(R176). -/
abbrev Port.answering (p : Port) (frame : List Byte) : Port :=
  { p with
    ready := none
    response := if p.txn = .execute then some frame else p.response
    readPos := if p.txn = .execute then 0 else p.readPos }

/-- The port with the waiting command's response ready, or lost with its transaction (R176). -/
abbrev Port.finishing (p : Port) (w : PortWait) (frame : List Byte) : Port :=
  { p with
    waiting := none
    response := if w.responseLost then p.response else some frame
    readPos := if w.responseLost then p.readPos else 0 }

/-- The notice that a change of session state raises (R164). -/
abbrev State.sessionNotice (s : State) (new : SessionState) (cause : Cause) : Notice :=
  { kind := .session, stamp := s.timer.roundCounter, pad := none,
    value := some (256 * sessionCode new + causeCode cause) }

/-- A notice of this instant. -/
abbrev State.notice (s : State) (kind : NoticeKind) (pad value : Option Nat) : Notice :=
  { kind := kind, stamp := s.timer.roundCounter, pad := pad, value := value }

/-- A qualified input after one sample of a level (R83, R140, R157). -/
abbrev QInput.sampledTo (q : QInput) (sample : Bool) (q' : QInput) : Prop :=
  q'.level = q.level ∧ (sample = q.level → q'.run = 0) ∧ (sample ≠ q.level → q'.run = q.run + 1)

/-! ### Frames on the line -/

/-- The receiver is in PREAMBLE or DATA, and can take these cells. -/
abbrev State.receiving (s : State) (cells : List LineCell) : Prop :=
  s.resetHeld = false ∧ s.canReceive cells = true

/-- The bits of the burst with these cells. -/
abbrev State.burstBits (s : State) (cells : List LineCell) : List Bool :=
  s.line.rx.bits ++ bitsBeforeViolation cells

/-- These cells complete a frame whose 192 data bits are `d` (R5). -/
abbrev State.completes (s : State) (cells : List LineCell) (d : List Bool) : Prop :=
  s.receiving cells ∧ s.burstBits cells = preambleBits ++ d ∧ d.length = 192

/-- A claim whose fields fit their widths on the line and name a legal pad and branch (Table 1-2). -/
abbrev Claim.onLine (c : Claim) : Prop :=
  c.pad ≤ 35 ∧ c.branch ≤ 5 ∧ c.request < 1024 ∧ c.floor < 1024 ∧ c.weight < 16 ∧ c.draw < 1024
    ∧ c.commit < 1024 ∧ c.intentAge < 256 ∧ c.branchLimit < 4096 ∧ c.feederLimit < 16384
    ∧ c.curtailLimit < 16384

/-! ### The peer view (R55 to R57, R65) -/

/-- An optional figure that is present and lies in a range. -/
def presentIn (lo hi : Nat) : Option Nat → Bool
  | some n => decide (lo ≤ n) && decide (n ≤ hi)
  | none => false

/-- The claim of an entry, where there is one, carries the entry's pad number (R55). -/
def Entry.carriesPad (e : Entry) (pad : Nat) : Bool :=
  match e.claim with
  | some c => c.pad == pad
  | none => true

/-- The entry holds nothing of a claim (R56). -/
abbrev Entry.holdsNothing (e : Entry) : Prop :=
  e.claim = none ∧ e.heard = false ∧ e.age = none ∧ e.mismatch = false ∧ e.excess = none

/-- The fields of an entry stand as its state has them (Table 4-1, R56, R65). The expected commit is left
out: it is the share engine's, whatever the state. -/
abbrev Entry.proper (adoptionReserve pad : Nat) (e : Entry) : Prop :=
  e.carriesPad pad = true
    ∧ (e.excess.isSome = true → e.mismatch = true)
    ∧ (e.state = .empty → e.holdsNothing ∧ e.reserve = none)
    ∧ (e.state = .live → e.claim.isSome = true ∧ presentIn 0 2 e.age = true
        ∧ e.reserve = if e.heard then none else e.claim.map Claim.load)
    ∧ (e.state = .stale → e.claim.isSome = true ∧ e.heard = false ∧ presentIn 3 11 e.age = true
        ∧ e.reserve = e.claim.map Claim.load)
    ∧ (e.state = .held → e.claim.isSome = true ∧ e.heard = false ∧ presentIn 12 255 e.age = true
        ∧ e.reserve = e.claim.map Claim.load ∧ 1 ≤ e.reserve.getD 0)
    ∧ (e.state = .adopted → e.holdsNothing ∧ e.reserve = some adoptionReserve)

/-- The receive register holds only a claim of another pad, and none before SETUP (R8, R9). -/
def State.registerProper (s : State) : Bool :=
  match s.line.register with
  | some c => s.configured && decide (c.pad < Config.pads) && some c.pad != s.standing.pad
  | none => true

/-- The peer view is proper: 36 entries, each as its state has it; the held set has bit n set where pad n is
HELD, and the counts are those of the table; the own entry is EMPTY; and nothing is known before SETUP. -/
abbrev State.viewProper (s : State) : Prop :=
  s.view.entries.length = 36
    ∧ s.view.held = heldOf s.view.entries
    ∧ (∀ pad < 36, s.view.held.getLsbD pad = decide ((s.view.entry pad).state = .held))
    ∧ s.view.liveCount = countOf s.view.entries .live
    ∧ s.view.staleCount = countOf s.view.entries .stale
    ∧ s.view.heldCount = countOf s.view.entries .held
    ∧ s.view.adoptedCount = countOf s.view.entries .adopted
    ∧ (∀ pad < 36, (s.view.entry pad).proper s.cfg.adoptionReserve pad)
    ∧ (∀ pad < 36, s.standing.pad = some pad → (s.view.entry pad).state = .empty)
    ∧ (s.configured = false → s.standing.pad = none ∧ ∀ pad < 36, (s.view.entry pad).state = .empty)
    ∧ s.registerProper = true

/-! ### The notice queue (R188, R189) -/

/-- At most 16 notices, and ATTN asserted exactly while there is one. -/
abbrev State.noticesProper (s : State) : Prop :=
  s.notices.queue.length ≤ 16 ∧ s.notices.attn = !s.notices.queue.isEmpty

/-! ### The applied setpoint (R125) -/

/-- The applied setpoint stays within the last echoed commit and the charger rating, and there is no rating
before SETUP. -/
abbrev State.setpointBounded (s : State) : Prop :=
  s.applyUnit.applied ≤ s.applyUnit.lastEchoed ∧ s.applyUnit.applied ≤ s.cfg.chargerRating
    ∧ (s.configured = false → s.cfg.chargerRating = 0)

/-! ### The share computation -/

/-- The sum of the shares of a result table on a branch. -/
def sharesOnBranch (rows : List ResultRow) (branch : Nat) : Nat :=
  ((rows.filter fun r => r.branch == branch).map ResultRow.share).sum

/-- The sum of the shares of a result table. -/
def sharesInAll (rows : List ResultRow) : Nat := (rows.map ResultRow.share).sum

/-- A participant list in ascending pad order with legal weights (R96, R97). -/
abbrev participantsProper (ps : List Participant) : Prop :=
  (ps.map Participant.pad).Pairwise (· < ·) ∧ ∀ p ∈ ps, 1 ≤ p.weight ∧ p.request ≤ 1000

end Sys2Proof.Machine
end

