-- ==== Sys2Proof/Certificates/Slice0/Obligations.lean ====
section
/-! DEFINITION. The statements for the provers. Each says in its own words what OBLIGATIONS.json gives it
as its title; the rule or section of the spec it rests on stands in its docstring. A statement of the shape
`∃ t, exec c s = .next t ∧ … ∧ t = { s with … }` says that the command completes, what the fields it writes
become, and that every other field is as before. -/

open Sys2Proof Sys2Proof.Machine

/-! ### The machine -/

/-- The model's own queue (log entry 2): a step runs the command at its front. -/
def Obligations.StepRunsTheFrontCommand : Prop :=
  (∀ (c : Instr) (rest : List Instr) (s : State),
      s.pending = c :: rest → step s = exec c { s with pending := rest })
    ∧ ∀ s : State, s.pending = [] → step s = .next s

/-- 00, section 6: no command touches the factory-unique identity. That no command stops the part, one that it
cannot raise in the present state leaving it as it is, and that none touches the queue, are the model's choices
(log entries 1 and 2, DESIGN CHOICE). -/
def Obligations.NoCommandStopsThePart : Prop :=
  ∀ (c : Instr) (s : State), ∃ t, exec c s = .next t ∧ t.pending = s.pending ∧ t.identity = s.identity

/-! ### Power-on reset (11, section 11.4) -/

/-- R193 with the power-on rules of the chapters (R16, R36, R39, R76, R93, R115, R131, R151, R172, R191): every
block at its power-on values, the outputs at their reset levels, the reset held; a low pulse on RST_N shorter
than 2 us is ignored. The values that the spec does not state are the model's choices: the origin of the slot
clock and the search start (log entry 4), the check field of a reset claim (log entry 13), the input pins the
read position of the response and some markers (log entry 14), the figures of a computation and of a fill that
are not in progress (log entry 21), and the counter of the free values, which is kept (log entry 33). -/
def Obligations.PowerOnResetSetsEveryBlock : Prop :=
  (∀ (cause : ResetCondition) (s : State),
      (cause = .vddLow ∨ ∃ units, cause = .rstLow units ∧ 16 ≤ units) →
      ∃ t, exec (.powerOnReset cause) s = .next t
        ∧ t.outputs =
          { plTxd := .level true, plDe := false, cpDout := none, cpDoutBits := [], attn := true, spchg := false, preDrv := false,
            mainDrv := false }
        ∧ t =
          { State.reset with
            identity := s.identity, resetHeld := true,
            inputs := { s.inputs with rstN := t.inputs.rstN, vddOk := t.inputs.vddOk },
            free := s.free, pending := s.pending })
    ∧ ∀ (units : Nat) (s : State), units < 16 → exec (.powerOnReset (.rstLow units)) s = .next s

/-- R193, R191: the reset ends when RST_N and VDD have both cleared, with a transaction opened where CP_SEL is
asserted then. That until then no other command has an effect, and that PL_TXD stays high from then to the first
own frame, are the model's choices (log entries 1 and 44, DESIGN CHOICE). -/
def Obligations.ResetEndsWhenBothConditionsClear : Prop :=
  (∀ (sel : Bool) (s : State), s.resetHeld = true →
      ∃ t, exec (.resetEnd true true sel) s = .next t
        ∧ t.resetHeld = false
        ∧ (sel = false → t.port = s.port)
        ∧ (sel = true → t.port.txn = .command ∧ t.port.assembly = [] ∧ t.port.dout = none
            ∧ t.port.response = none ∧ t.outputs.cpDout = some false ∧ t.outputs.cpDoutBits = [])
        ∧ t =
          { s with
            resetHeld := false
            inputs := { s.inputs with rstN := true, vddOk := true, cpSel := !sel }
            port :=
              { s.port with
                txn := t.port.txn, assembly := t.port.assembly, response := t.port.response,
                readPos := t.port.readPos, dout := t.port.dout } })
    ∧ (∀ (rstN vddOk sel : Bool) (s : State), rstN = false ∨ vddOk = false →
        exec (.resetEnd rstN vddOk sel) s = .next s)
    ∧ ∀ (c : Instr) (s : State), s.resetHeld = true → (∀ cause, c ≠ .powerOnReset cause) →
        (∀ rstN vddOk sel, c ≠ .resetEnd rstN vddOk sel) → exec c s = .next s

/-! ### Slot periods and qualified inputs -/

/-- R18 to R22, R32, R35, R83, R140, R157: the slot index advances while a round runs, the period start moves on
by 250 us, each qualified input takes one sample (CURT from SETUP on), and the named points of the new slot
period are raised. The silence count of SEARCH is the number of slot periods passed since entry, and that of
REALIGN advances at the end of each slot period as long as no target is fixed. From which instant SEARCH is
measured, and that its count is brought up to date at period starts, is the model's choice (log entry 23, DESIGN
CHOICE). -/
def Obligations.PeriodStartAdvancesSlotAndSamples : Prop :=
  ∀ (curt preFb mainFb dockSns : Bool) (s : State), s.resetHeld = false → s.canPeriodStart = true →
    ∃ t, exec (.periodStart curt preFb mainFb dockSns) s = .next t
      ∧ (s.timer.roundRunning = false → t.timer.slot = none)
      ∧ (s.timer.roundRunning = true → s.timer.slot = none → t.timer.slot = some 0)
      ∧ (∀ k, s.timer.roundRunning = true → s.timer.slot = some k → t.timer.slot = some (k + 1))
      ∧ t.timer.periodStart = s.timer.nextPeriod ∧ t.timer.nextPeriod = s.timer.nextPeriod + 2000
      ∧ t.timer.silence =
        (if s.timer.mode = .search then ((s.timer.nextPeriod - s.timer.searchStart) / 2000).toNat
        else if s.timer.mode = .realign ∧ s.timer.target = none ∧ s.timer.slot.isSome = true then
          min 80 (s.timer.silence + 1)
        else s.timer.silence)
      ∧ (s.timer.mode = .search → t.timer.silence < 80)
      ∧ s.qual.preFb.sampledTo (!preFb) t.qual.preFb ∧ s.qual.mainFb.sampledTo (!mainFb) t.qual.mainFb
      ∧ s.qual.dock.sampledTo (!dockSns) t.qual.dock
      ∧ (s.configured = true → s.qual.curtail.sampledTo (!curt) t.qual.curtail)
      ∧ (s.configured = false → t.qual.curtail = s.qual.curtail)
      ∧ (t.due.ownSlot = true ↔ ∃ k, t.timer.slot = some k ∧ s.standing.pad = some k)
      ∧ (t.due.compute = true ↔ t.timer.slot = some 36) ∧ (t.due.apply = true ↔ t.timer.slot = some 37)
      ∧ (t.due.switchWindow = true ↔ t.timer.slot = some 38)
      ∧ (t.due.sweepPoint = true ↔ t.timer.slot = some 39)
      ∧ t.due.spchgEnd = s.applyUnit.spchg
      ∧ t =
        { s with
          inputs := { s.inputs with curt := curt, preFb := preFb, mainFb := mainFb, dockSns := dockSns }
          timer :=
            { s.timer with
              slot := t.timer.slot, silence := t.timer.silence, periodStart := t.timer.periodStart,
              nextPeriod := t.timer.nextPeriod }
          qual := t.qual
          due :=
            { s.due with
              ownSlot := t.due.ownSlot, compute := t.due.compute, apply := t.due.apply,
              switchWindow := t.due.switchWindow, sweepPoint := t.due.sweepPoint,
              spchgEnd := t.due.spchgEnd } }

/-- R83, R84: with Q differing samples the qualified curtail level changes; a qualified assertion sets both
flags of the curtail memory, a deassertion neither. -/
def Obligations.QualifiedCurtailChangeSetsTheMemory : Prop :=
  ∀ s : State, s.resetHeld = false → s.configured = true → 0 < s.qual.curtail.run →
    s.cfg.curtailSamples ≤ s.qual.curtail.run →
    ∃ t, exec .qualifiedCurtailChange s = .next t
      ∧ t.qual.curtail = { level := !s.qual.curtail.level, run := 0 }
      ∧ (s.qual.curtail.level = false → t.limit.assertionSeen = true ∧ t.limit.levelSeen = true)
      ∧ (s.qual.curtail.level = true → t.limit = s.limit)
      ∧ t =
        { s with
          qual := { s.qual with curtail := t.qual.curtail }
          limit :=
            { s.limit with
              assertionSeen := t.limit.assertionSeen, levelSeen := t.limit.levelSeen } }

/-- R140 to R142, R138, R146, R149, R150: with eight differing samples a contactor's qualified feedback changes,
and nothing of the other contactor does. Before SETUP that is all. A change toward the drive turns the confirm
state into AGREED; for MAIN awaited in MAIN_CLOSING with the open mode NONE it connects the session, and in
OPENING with both AGREED it ends the opening; otherwise (MAIN confirmed with the open mode NORMAL or FORCED
included) phase, open mode and session stay, and no notice is raised. A change away from the drive while AGREED
is a contactor fault with the code of Table 8-1, which bars an outstanding turn decision. That a stop that a
boundary made due lapses with it is the model's reading (log entry 26, DEDUCED). -/
def Obligations.QualifiedFeedbackConfirmsOrFaults : Prop :=
  ∀ (c : Contactor) (s : State), s.resetHeld = false → 8 ≤ s.feedbackRun c →
    ∃ t, exec (.qualifiedFeedbackChange c) s = .next t
      ∧ t.feedback c = !s.feedback c ∧ t.feedbackRun c = 0
      ∧ (∀ o, o ≠ c → t.feedback o = s.feedback o ∧ t.feedbackRun o = s.feedbackRun o
          ∧ t.seq.confirm o = s.seq.confirm o)
      ∧ (s.configured = false → t = { s with qual := t.qual })
      ∧ (s.configured = true → t.feedback c = s.seq.drive c →
          let connects := c = .main ∧ s.seq.phase = .mainClosing ∧ s.seq.openMode = .none
            ∧ ∃ n, s.seq.mainConfirm = .awaiting n
          let opened := s.seq.phase = .opening ∧ t.seq.preConfirm = .agreed ∧ t.seq.mainConfirm = .agreed
          t.seq.confirm c = .agreed ∧ t.turn = s.turn ∧ t.session.held = s.session.held
            ∧ (s.session.state = .connected →
              t.session.overdrawRun = s.session.overdrawRun ∧ t.due = s.due)
            ∧ (connects → t.seq.phase = .preRelease ∧ t.seq.openMode = .none
              ∧ (s.session.state = .precharge →
                t.session.state = .connected
                  ∧ t.notices = s.notices.push (s.sessionNotice .connected .mainConfirmed))
              ∧ (s.session.state ≠ .precharge →
                t.session.state = s.session.state ∧ t.notices = s.notices))
            ∧ (opened → t.seq.phase = .idle ∧ t.seq.openMode = .none
              ∧ (s.session.state = .stopping →
                t.session.state = (if s.docked then .released else .vacant)
                  ∧ t.notices = s.notices.push (s.sessionNotice t.session.state .opened))
              ∧ (s.session.state ≠ .stopping →
                t.session.state = s.session.state ∧ t.notices = s.notices))
            ∧ (¬connects → ¬opened →
              t.seq.phase = s.seq.phase ∧ t.seq.openMode = s.seq.openMode
                ∧ t.session.state = s.session.state ∧ t.notices = s.notices))
      ∧ (s.configured = true → t.feedback c ≠ s.seq.drive c → s.seq.confirm c ≠ .agreed →
          t = { s with qual := t.qual })
      ∧ (s.configured = true → t.feedback c ≠ s.seq.drive c → s.seq.confirm c = .agreed →
          let fault := s.notice .contactorFault none
            (some (match c, s.seq.drive c with
              | .pre, true => 3
              | .pre, false => 4
              | .main, true => 7
              | .main, false => 8))
          t.seq.confirm c = .failed ∧ t.seq.phase = .faulted ∧ t.seq.openMode = .forced
            ∧ t.session.state = .fault
            ∧ t.session.held = (if s.session.state = .fault then s.session.held else [])
            ∧ t.session.overdrawRun = 0 ∧ t.due.overdraw = none ∧ t.due.reportLost = none
            ∧ t.turn = { s.turn with barred := s.turn.barred || s.turn.deciding }
            ∧ t.notices =
              if s.session.state = .fault then s.notices.push fault
              else (s.notices.push fault).push (s.sessionNotice .fault .contactorFault))
      ∧ t =
        { s with
          qual := { s.qual with preFb := t.qual.preFb, mainFb := t.qual.mainFb }
          seq :=
            { s.seq with
              preConfirm := t.seq.preConfirm, mainConfirm := t.seq.mainConfirm, phase := t.seq.phase,
              openMode := t.seq.openMode }
          session :=
            { s.session with
              state := t.session.state, overdrawRun := t.session.overdrawRun, held := t.session.held }
          turn := { s.turn with barred := t.turn.barred }
          due := { s.due with overdraw := t.due.overdraw, reportLost := t.due.reportLost }
          notices := t.notices }

/-- R157, R158, R161, R138, R147, R164: with sixteen differing samples the dock level changes. An assertion
moves the session from VACANT to DOCKED once SETUP has been accepted, and changes no other state. A dock loss
has no effect on the session before SETUP, is held during a turn decision of which the own station is a
candidate, and otherwise raises DOCK_LOST and acts by the session's state, with the open mode FORCED where the
session stops. The model's readings are that a held loss raises DOCK_LOST only when it is taken (log entry 18,
DEDUCED), that a loss is held in every session state, RELEASED and FAULT too, while the own station is a
candidate (log entry 43, DEDUCED), and that a stop that a boundary made due lapses with the session state it
would have left (log entry 26, DEDUCED); the value of DOCK_LOST without a record is a free value (log entry 12,
DESIGN CHOICE). -/
def Obligations.DockInputActsOnTheSession : Prop :=
  (∀ s : State, s.resetHeld = false → 16 ≤ s.qual.dock.run → s.qual.dock.level = false →
       ∃ t, exec .qualifiedDockAssertion s = .next t
         ∧ t.qual.dock = { level := true, run := 0 }
         ∧ (s.configured = true → s.session.state = .vacant →
             t.session.state = .docked ∧ t.notices = s.notices.push (s.sessionNotice .docked .dockAsserted))
         ∧ (s.configured = false ∨ s.session.state ≠ .vacant →
             t.session.state = s.session.state ∧ t.notices = s.notices)
         ∧ t =
           { s with
             qual := { s.qual with dock := t.qual.dock }
             session := { s.session with state := t.session.state, overdrawRun := t.session.overdrawRun }
             due := { s.due with overdraw := t.due.overdraw, reportLost := t.due.reportLost }
             notices := t.notices })
    ∧ (∀ s : State, s.resetHeld = false → 16 ≤ s.qual.dock.run → s.qual.dock.level = true →
         ∃ t, exec .dockLoss s = .next t
           ∧ t.qual = { s.qual with dock := { level := false, run := 0 } }
           ∧ (s.configured = false → t = { s with qual := t.qual })
           ∧ (s.configured = true → s.turn.deciding = true → s.turn.ownCandidate.isSome = true →
               t = { s with
                 qual := t.qual, session := { s.session with held := s.session.held ++ [.dockLoss] } })
           ∧ (s.configured = true → s.turn.deciding = false ∨ s.turn.ownCandidate = none →
               t.session.state =
                   (match s.session.state with
                     | .docked => .vacant
                     | .intent => .vacant
                     | .precharge => .stopping
                     | .connected => .stopping
                     | .released => .vacant
                     | .vacant => .vacant
                     | .stopping => .stopping
                     | .fault => .fault)
                 ∧ (t.session.state = .stopping → s.seq.phase ≠ .idle → t.seq.openMode = .forced)
                 ∧ (t.session.state ≠ .stopping → t.seq = s.seq)
                 ∧ (s.seq.phase = .idle → s.seq.preDrive = false → s.seq.mainDrive = false →
                     t.seq = s.seq)
                 ∧ t.session.held = s.session.held
                 ∧ (t.session.state ≠ s.session.state →
                     t.session.overdrawRun = 0 ∧ t.due.overdraw = none ∧ t.due.reportLost = none)
                 ∧ (∀ r, s.session.record = some r →
                     t.notices =
                       (if t.session.state = s.session.state then
                         s.notices.push (s.notice .dockLost none (some r.delivered))
                       else
                         (s.notices.push (s.notice .dockLost none (some r.delivered))).push
                           (s.sessionNotice t.session.state .dockLost)))
                 ∧ (s.session.record = none →
                     ∃ kwh < 65536, t.notices =
                       (if t.session.state = s.session.state then
                         s.notices.push (s.notice .dockLost none (some kwh))
                       else
                         (s.notices.push (s.notice .dockLost none (some kwh))).push
                           (s.sessionNotice t.session.state .dockLost))))
           ∧ t =
             { s with
               qual := t.qual
               session :=
                 { s.session with
                   state := t.session.state, overdrawRun := t.session.overdrawRun, held := t.session.held }
               seq := { s.seq with openMode := t.seq.openMode }
               due := { s.due with overdraw := t.due.overdraw, reportLost := t.due.reportLost }
               notices := t.notices
               free := t.free })

/-! ### The pad line -/

/-- R1, R2, R5, R6, Table 11-2: the first transition of a burst takes the receiver from IDLE to PREAMBLE with
the frame start 0.5 us before it, and an idle line takes it from DRAIN to IDLE. A burst that goes on keeps its
bits, and enters DATA with a right preamble. A burst of fewer than 8 bits that ends is ignored; a wrong
preamble, a violation or an idle line within the data bits, and a frame whose check, pad, branch or kind is
wrong, are counted once, and reach no block: the check field is that of the content bits, the pad at most 35,
the branch at most 5, and the kind code 1 to 5 in a valid frame. The receiver is then in IDLE where the line
went idle within the data bits, and in DRAIN otherwise. -/
def Obligations.ReceiverTakesBurstsAndCountsInvalidOnes : Prop :=
  ((∀ (transition : Nat) (s : State), s.resetHeld = false → s.line.rx.state = .idle →
         exec (.frameStart transition) s =
           .next { s with
             inputs := { s.inputs with plRxd := false }
             line :=
               { s.line with
                 rx :=
                   { state := .preamble, bits := [],
                     start := s.timer.periodStart + (transition : Int) - 4 } } })
       ∧ ∀ s : State, s.resetHeld = false → s.line.rx.state = .drain →
         exec .lineIdle s =
           .next { s with
             inputs := { s.inputs with plRxd := true }
             line := { s.line with rx := { s.line.rx with state := .idle, bits := [] } } })
    ∧ (∀ (cells : List LineCell) (burst : BurstEnd) (s : State), s.receiving cells →
         let bits := s.burstBits cells
         let ends := hasViolation cells = true ∨ burst = .idle
         ((bits.length < 8 ∧ ends)
           ∨ (8 ≤ bits.length ∧ bits.take 8 ≠ [true, false, true, false, true, false, true, true])
           ∨ (8 ≤ bits.length ∧ bits.length < 200 ∧ ends)
           ∨ (200 ≤ bits.length ∧ frameValid ((bits.drop 8).take 192) = false)) →
         ∃ t, exec (.claimFrameEvaluated cells burst) s = .next t
           ∧ t.line.errors =
             (if bits.length < 8 then s.line.errors else min 65535 (s.line.errors + 1))
           ∧ t.line.rx.state =
             (if bits.length < 8 then .idle
             else if bits.take 8 = [true, false, true, false, true, false, true, true]
                 ∧ bits.length < 200 ∧ burst = .idle then .idle
             else .drain)
           ∧ t.line.rx.bits = []
           ∧ t =
             { s with
               inputs := { s.inputs with plRxd := t.inputs.plRxd }
               line :=
                 { s.line with
                   errors := t.line.errors
                   rx := { s.line.rx with state := t.line.rx.state, bits := t.line.rx.bits } } })
    ∧ (∀ (cells : List LineCell) (s : State), s.receiving cells → hasViolation cells = false →
         let bits := s.burstBits cells
         (bits.length < 8
           ∨ (bits.length < 200
             ∧ bits.take 8 = [true, false, true, false, true, false, true, true])) →
         ∃ t, exec (.claimFrameEvaluated cells .running) s = .next t
           ∧ t =
             { s with
               inputs := { s.inputs with plRxd := t.inputs.plRxd }
               line :=
                 { s.line with
                   rx :=
                     { s.line.rx with
                       state := if bits.length < 8 then s.line.rx.state else .data
                       bits := bits } } })
    ∧ (∀ d : List Bool, frameValid d = true ↔
         (crc16 (d.take 176)).toNat = fieldOf d 176 16 ∧ fieldOf d 0 6 ≤ 35 ∧ fieldOf d 6 3 ≤ 5
           ∧ 1 ≤ fieldOf d 9 4 ∧ fieldOf d 9 4 ≤ 5)

/-- R7 to R9, R25 to R27, R31, R33, R34: a valid frame is dropped before SETUP; one that starts in slot period 36
or later of the running round, or before the round and before the boundary that it followed, is counted and
discarded; any other of another pad is normalised and goes to the receive register with a request for the view
store, while its pad and start set the clock in SEARCH, fix the target in REALIGN, and in RUNNING make the
reference candidate where the pad is lower. Normalising clamps request and floor to 1000, the limits to 4000,
16000 and 16000, takes a weight of 0 with kind ACTIVE as 1, and the fourth intent code as NONE; the other
fields are as received. The echo-check result stays but in SEARCH. That a frame evaluated in REALIGN is handed
on even where it started in slot 39 of the last round in RUNNING is the model's choice (log entry 45, DESIGN
CHOICE). -/
def Obligations.ValidFrameOfAPeerIsHandedOn : Prop :=
  ∀ (cells : List LineCell) (burst : BurstEnd) (d : List Bool) (s : State), s.completes cells d →
    frameValid d = true → some (claimOfBits d).pad ≠ s.standing.pad →
    ∃ t, exec (.claimFrameEvaluated cells burst) s = .next t
      ∧ t.line.rx.state = .drain
      ∧ (s.configured = false ∨ s.timer.mode ≠ .search → t.line.echo = s.line.echo)
      ∧ (s.configured = false → t.line.register = s.line.register ∧ t.line.errors = s.line.errors
          ∧ t.timer = s.timer ∧ t.store = s.store)
      ∧ (s.configured = true → s.timer.mode = .running →
          (s.timer.roundStart + 72000 ≤ s.line.rx.start
            ∨ (s.line.rx.start < s.timer.roundStart
              ∧ ∃ b, s.timer.lastBoundary = some b ∧ s.line.rx.start < b)) →
          t.line.register = s.line.register ∧ t.line.errors = min 65535 (s.line.errors + 1)
            ∧ t.timer = s.timer ∧ t.store = s.store)
      ∧ (s.configured = true →
          (s.timer.mode = .running → s.timer.roundStart ≤ s.line.rx.start
            ∧ s.line.rx.start < s.timer.roundStart + 72000) →
          t.line.register =
              some { claimOfBits d with
                request := min (fieldOf d 45 10) 1000
                floor := min (fieldOf d 55 10) 1000
                weight :=
                  if (claimOfBits d).kind = .active ∧ fieldOf d 65 4 = 0 then 1 else fieldOf d 65 4
                intent :=
                  (match fieldOf d 89 2 with
                    | 1 => .connect
                    | 2 => .switched
                    | _ => .nothing)
                branchLimit := min (fieldOf d 99 12) 4000
                feederLimit := min (fieldOf d 111 14) 16000
                curtailLimit := min (fieldOf d 125 14) 16000 }
            ∧ t.line.errors = s.line.errors
            ∧ t.store = s.store.request .claimWrite
            ∧ (s.timer.mode = .search →
              t.timer =
                  { s.timer with
                    mode := .running, slot := some (claimOfBits d).pad, periodStart := s.line.rx.start,
                    nextPeriod := s.line.rx.start + 2000,
                    roundStart := s.line.rx.start - 2000 * ((claimOfBits d).pad : Int), reference := none,
                    misaligned := 0, silence := 0, target := none, inGap := false, lastBoundary := none }
                ∧ t.line.echo = .notSent)
            ∧ (s.timer.mode = .realign → s.timer.target = none →
              ∃ r : Int, t.timer = { s.timer with target := some r }
                ∧ s.timer.roundStart + 80000 ≤ r ∧ r < s.timer.roundStart + 160000
                ∧ ∃ k : Int, r = s.line.rx.start - 2000 * ((claimOfBits d).pad : Int) + 80000 * k)
            ∧ (s.timer.mode = .realign → s.timer.target ≠ none → t.timer = s.timer)
            ∧ (∀ own, s.timer.mode = .running → s.standing.pad = some own →
              t.timer =
                if (claimOfBits d).pad < own
                    ∧ (∀ r, s.timer.reference = some r → (claimOfBits d).pad < r.pad) then
                  { s.timer with
                    reference := some
                      { pad := (claimOfBits d).pad,
                        offset := s.line.rx.start
                          - (s.timer.roundStart + 2000 * ((claimOfBits d).pad : Int)) } }
                else s.timer))
      ∧ t =
        { s with
          inputs := { s.inputs with plRxd := t.inputs.plRxd }
          timer := t.timer
          store := t.store
          line :=
            { s.line with
              errors := t.line.errors, register := t.line.register, echo := t.line.echo,
              rx := { s.line.rx with state := t.line.rx.state, bits := t.line.rx.bits } } }

/-- R8, R25, R33, R34, R42, R49, R51, R52, R138, R162, R147: in RUNNING a valid claim for the own pad with a
foreign identity sends a transmitting standing to CONFLICT, with the notice and the signal to the session and
the sequencer, which bars an outstanding turn decision, and sets the occupancy marker in LISTEN; it has no
effect in another standing or with the own identity; one that starts in slot period 36 or later of the running
round, or before the round and before the boundary that it followed, is counted and discarded. In ACQUIRE a
claim for the own pad sets the clock of SEARCH, and in RESYNC it fixes the target of REALIGN, like any other
claim, and nothing else. A conflict discards no held event; that a stop that a boundary made due lapses with the
session state it would have left is the model's reading (log entry 26, DEDUCED), and that a frame evaluated in
REALIGN fixes the target even where it started in slot 39 of the last round in RUNNING is its choice (log entry
45, DESIGN CHOICE). -/
def Obligations.ForeignClaimForTheOwnPadIsAConflict : Prop :=
  (∀ (cells : List LineCell) (burst : BurstEnd) (d : List Bool) (s : State), s.completes cells d →
    frameValid d = true → s.configured = true → some (claimOfBits d).pad = s.standing.pad →
    s.timer.mode = .running → s.timer.roundStart ≤ s.line.rx.start →
    s.line.rx.start < s.timer.roundStart + 72000 →
    ∃ t, exec (.claimFrameEvaluated cells burst) s = .next t
      ∧ t.line.rx.state = .drain
      ∧ ((claimOfBits d).identity = s.identity
          ∨ (s.standing.state ≠ .listen ∧ s.standing.state.transmitting = false) →
          t = { s with inputs := t.inputs, line := t.line })
      ∧ ((claimOfBits d).identity ≠ s.identity → s.standing.state = .listen →
          t = { s with
            inputs := t.inputs, line := t.line
            standing :=
              { s.standing with
                occupant := s.standing.occupant.or (some (claimOfBits d).identity) } })
      ∧ ((claimOfBits d).identity ≠ s.identity → s.standing.state.transmitting = true →
          t.standing =
              { s.standing with
                state := .conflict, failures := 0, backoff := 0, goodRun := 0, occupant := none }
            ∧ t.session.state =
              (match s.session.state with
                | .intent => .released
                | .precharge => .stopping
                | .connected => .stopping
                | .vacant => .vacant
                | .docked => .docked
                | .stopping => .stopping
                | .released => .released
                | .fault => .fault)
            ∧ t.session.held = s.session.held
            ∧ (t.session.state ≠ s.session.state →
              t.session.overdrawRun = 0 ∧ t.due.overdraw = none ∧ t.due.reportLost = none)
            ∧ (s.seq.phase ≠ .idle → t.seq.openMode = .forced)
            ∧ (s.seq.phase = .idle → s.seq.preDrive = false → s.seq.mainDrive = false →
              t.seq.openMode = s.seq.openMode)
            ∧ t.turn.barred = (s.turn.barred || s.turn.deciding)
            ∧ t.notices =
              (if t.session.state = s.session.state then
                s.notices.push
                  (s.notice .conflict s.standing.pad (some (claimOfBits d).identity.toNat))
              else
                (s.notices.push
                  (s.notice .conflict s.standing.pad (some (claimOfBits d).identity.toNat))).push
                  (s.sessionNotice t.session.state .conflict)))
      ∧ t =
        { s with
          inputs := { s.inputs with plRxd := t.inputs.plRxd }
          line :=
            { s.line with rx := { s.line.rx with state := t.line.rx.state, bits := t.line.rx.bits } }
          standing := t.standing
          session :=
            { s.session with
              state := t.session.state, overdrawRun := t.session.overdrawRun, held := t.session.held }
          seq := { s.seq with openMode := t.seq.openMode }
          turn := { s.turn with barred := t.turn.barred }
          due := { s.due with overdraw := t.due.overdraw, reportLost := t.due.reportLost }
          notices := t.notices })
    ∧ (∀ (cells : List LineCell) (burst : BurstEnd) (d : List Bool) (s : State), s.completes cells d →
      frameValid d = true → s.configured = true → some (claimOfBits d).pad = s.standing.pad →
      s.timer.mode = .running →
      (s.timer.roundStart + 72000 ≤ s.line.rx.start
        ∨ (s.line.rx.start < s.timer.roundStart
          ∧ ∃ b, s.timer.lastBoundary = some b ∧ s.line.rx.start < b)) →
      ∃ t, exec (.claimFrameEvaluated cells burst) s = .next t
        ∧ t =
          { s with
            inputs := { s.inputs with plRxd := t.inputs.plRxd }
            line :=
              { s.line with
                errors := min 65535 (s.line.errors + 1)
                rx := { s.line.rx with state := .drain, bits := [] } } })
    ∧ ∀ (cells : List LineCell) (burst : BurstEnd) (d : List Bool) (s : State), s.completes cells d →
      frameValid d = true → some (claimOfBits d).pad = s.standing.pad →
      (s.timer.mode = .search ∧ s.standing.state = .acquire)
        ∨ (s.timer.mode = .realign ∧ s.standing.state = .resync) →
      let start := s.line.rx.start - 2000 * ((claimOfBits d).pad : Int)
      ∃ t, exec (.claimFrameEvaluated cells burst) s = .next t
        ∧ (s.timer.mode = .search →
          t.timer =
              { s.timer with
                mode := .running, slot := some (claimOfBits d).pad, periodStart := s.line.rx.start,
                nextPeriod := s.line.rx.start + 2000, roundStart := start, reference := none,
                misaligned := 0, silence := 0, target := none, inGap := false, lastBoundary := none }
            ∧ t.line.echo = .notSent)
        ∧ (s.timer.mode = .realign → t.line.echo = s.line.echo)
        ∧ (s.timer.mode = .realign → s.timer.target = none →
          ∃ r : Int, t.timer = { s.timer with target := some r }
            ∧ s.timer.roundStart + 80000 ≤ r ∧ r < s.timer.roundStart + 160000
            ∧ ∃ k : Int, r = start + 80000 * k)
        ∧ (s.timer.mode = .realign → s.timer.target ≠ none → t.timer = s.timer)
        ∧ t =
          { s with
            inputs := { s.inputs with plRxd := t.inputs.plRxd }
            timer := t.timer
            line :=
              { s.line with
                echo := t.line.echo, rx := { s.line.rx with state := .drain, bits := [] } } }

/-- Table 11-1, Table 11-2, R1, R3, R4, R192: the frame of any claim that fits the line is coded in 200 cells,
each with its mid-cell transition; decoded, it is valid, and gives the claim back, each field standing at its
bits of Table 11-1 in the codes of Table 11-2, most significant bit first. The check is the CRC with the
polynomial x^16 + x^12 + x^5 + 1, whose register starts at all ones and takes the bits in order of transmission;
the bits followed by their check leave 0 in it, and a frame with any other check field is invalid. -/
def Obligations.ClaimFrameCodingRoundTrips : Prop :=
  (∀ c : Claim, c.onLine →
      let h : Half := { claim := c, check := crc16 (claimBits c) }
      (frameCells h).length = 200 ∧ hasViolation (frameCells h) = false
        ∧ bitsBeforeViolation (frameCells h) = frameBits h
        ∧ (frameBits h).take 8 = [true, false, true, false, true, false, true, true]
        ∧ frameValid (halfBits h) = true ∧ claimOfBits (halfBits h) = c
        ∧ (let d := halfBits h;
          d.length = 192 ∧ fieldOf d 0 6 = c.pad ∧ fieldOf d 6 3 = c.branch
            ∧ fieldOf d 9 4 =
              (match c.kind with
                | .vacant => 1
                | .waiting => 2
                | .active => 3
                | .stopping => 4
                | .faulted => 5)
            ∧ fieldOf d 13 32 = c.identity.toNat ∧ fieldOf d 45 10 = c.request ∧ fieldOf d 55 10 = c.floor
            ∧ fieldOf d 65 4 = c.weight ∧ fieldOf d 69 10 = c.draw ∧ fieldOf d 79 10 = c.commit
            ∧ fieldOf d 89 2 =
              (match c.intent with
                | .nothing => 0
                | .connect => 1
                | .switched => 2)
            ∧ fieldOf d 91 8 = c.intentAge ∧ fieldOf d 99 12 = c.branchLimit
            ∧ fieldOf d 111 14 = c.feederLimit ∧ fieldOf d 125 14 = c.curtailLimit
            ∧ fieldOf d 139 1 = (if c.curtailFlag then 1 else 0) ∧ fieldOf d 140 36 = c.heldMask.toNat
            ∧ fieldOf d 176 16 = h.check.toNat))
    ∧ (∀ (d : List Bool) (offset width i : Nat), offset + width ≤ d.length → i < width →
      (fieldOf d offset width).testBit (width - 1 - i) = d.getD (offset + i) false)
    ∧ crc16 [] = BitVec.allOnes 16
    ∧ (∀ (bits : List Bool) (b : Bool), ∀ i < 16,
      let out := (crc16 bits).getLsbD 15 ^^ b
      (crc16 (bits ++ [b])).getLsbD i =
        ((decide (1 ≤ i) && (crc16 bits).getLsbD (i - 1)) ^^ (out && decide (i = 0 ∨ i = 5 ∨ i = 12))))
    ∧ (∀ bits : List Bool, crc16 (bits ++ bitsOfNat 16 (crc16 bits).toNat) = 0)
    ∧ ∀ (c : Claim) (check : BitVec 16), check ≠ crc16 (claimBits c) →
      frameValid (halfBits { claim := c, check := check }) = false

/-- R3, R6, R10, R12, R40, R117 to R119, R129, R133, R170, Table 1-3: the load of the own claim from its source
blocks, and the transmit decision; an own frame puts the preamble and the 192 data bits of the pending half out
on PL_TXD, and a reception that it abandons is counted once. The receiver's state during the own frame is the
model's own fifth state (log entry 16, DESIGN CHOICE). -/
def Obligations.OwnSlotLoadsTheClaimAndDecides : Prop :=
  ∀ s : State, s.resetHeld = false → s.due.ownSlot = true →
    ∃ t, exec .ownSlotStart s = .next t
      ∧ t.line.pending.claim.commit = s.applyUnit.grant ∧ t.applyUnit.lastCommit = s.applyUnit.grant
      ∧ t.line.pending.claim.draw = max s.applyUnit.applied s.session.lastMeasured
      ∧ (∀ r, s.session.record = some r →
          let asked := min (min r.maxAccept s.cfg.chargerRating)
            (max (s.applyUnit.grant + s.cfg.rampStep) (r.floor.getD 0))
          t.line.pending.claim.floor = r.floor.getD 0
            ∧ t.line.pending.claim.request =
              if 4 ≤ s.session.reportAge then min asked s.applyUnit.applied else asked)
      ∧ (s.session.record = none →
          t.line.pending.claim.floor = 0 ∧ t.line.pending.claim.request = 0)
      ∧ t.line.pending.claim.kind =
        (match s.session.state with
          | .vacant => .vacant
          | .docked => .waiting
          | .intent => .waiting
          | .precharge => .waiting
          | .connected => .active
          | .stopping => .stopping
          | .released => .vacant
          | .fault => .faulted)
      ∧ (s.session.state ≠ .connected → t.line.pending.claim.weight = 0)
      ∧ (s.session.state = .intent →
          t.line.pending.claim.intent = .connect
            ∧ t.line.pending.claim.intentAge = s.turn.intentAge)
      ∧ (s.session.state ≠ .intent → t.line.pending.claim.intentAge = 0
          ∧ t.line.pending.claim.intent = if s.seq.switched then .switched else .nothing)
      ∧ t.line.pending.claim.curtailFlag = (s.limit.ownCurtail || s.qual.curtail.level)
      ∧ t.line.pending.claim.heldMask = s.view.held ∧ t.line.pending.claim.identity = s.identity
      ∧ (∀ pad, s.standing.pad = some pad → t.line.pending.claim.pad = pad)
      ∧ t.line.pending.claim.branch = s.cfg.branch
      ∧ t.line.pending.claim.branchLimit = s.cfg.branchLimit
      ∧ t.line.pending.claim.feederLimit = s.cfg.feederLimit
      ∧ t.line.pending.claim.curtailLimit = s.cfg.curtailLimit
      ∧ t.line.pending.check = crc16 (claimBits t.line.pending.claim)
      ∧ t.line.echo = .notSent
      ∧ (t.standing.skipped = true ↔
          (s.standing.state = .backoff ∨ s.standing.state = .isolated) ∧ 0 < s.standing.backoff)
      ∧ ((s.standing.state = .active
            ∨ ((s.standing.state = .backoff ∨ s.standing.state = .isolated)
              ∧ s.standing.backoff = 0)) →
          t.line.txActive = true ∧ t.line.txd = true ∧ t.line.rx.state = .echoCheck
            ∧ t.outputs.plDe = true
            ∧ t.outputs.plTxd =
              .frame (([true, false, true, false, true, false, true, true]
                  ++ claimBits t.line.pending.claim
                  ++ bitsOfNat 16 t.line.pending.check.toNat).map fun b => { first := b, second := !b })
            ∧ t.line.errors =
              if s.line.rx.state = .preamble ∨ s.line.rx.state = .data then
                min 65535 (s.line.errors + 1)
              else s.line.errors)
      ∧ (¬(s.standing.state = .active
            ∨ ((s.standing.state = .backoff ∨ s.standing.state = .isolated)
              ∧ s.standing.backoff = 0)) →
          t.line = { s.line with pending := t.line.pending, echo := .notSent })
      ∧ t =
        { s with
          due := { s.due with ownSlot := false }
          applyUnit := { s.applyUnit with lastCommit := s.applyUnit.grant }
          standing := { s.standing with skipped := t.standing.skipped }
          line :=
            { s.line with
              pending := t.line.pending, echo := .notSent, txActive := t.line.txActive,
              txAbandoned := t.line.txAbandoned, txd := t.line.txd, errors := t.line.errors,
              rx := { s.line.rx with state := t.line.rx.state, bits := t.line.rx.bits } } }

/-- R171: the weight of an own claim of kind ACTIVE, from the session record and R_session (`power`), and its
place in the claim that a load writes. -/
def Obligations.WeightFollowsTheSlack : Prop :=
  (∀ (r : Record) (s : State), s.resetHeld = false → s.due.ownSlot = true →
      s.session.state = .connected → s.session.record = some r →
      ∃ t, exec .ownSlotStart s = .next t ∧ t.line.pending.claim.kind = .active
        ∧ t.line.pending.claim.weight = recordWeight r (min r.maxAccept s.cfg.chargerRating))
    ∧ ∀ (r : Record) (power : Nat),
        let required : Nat := min 65535 ⌈(r.energyNeeded * 360 : ℚ) / power⌉₊
        let base : Nat :=
          match r.departure with
          | none => 2
          | some d =>
            if d ≤ required then 15
            else if d ≤ required + 30 then 13
            else if d ≤ required + 120 then 11
            else if d ≤ required + 300 then 8
            else if d ≤ required + 900 then 5
            else 3
        recordWeight r power =
            (if power = 0 then 1
            else if r.vehicleClass = some .urgent then min 15 (base + 2) else base)
          ∧ 1 ≤ recordWeight r power ∧ recordWeight r power ≤ 15

/-- R13 to R15, R17, R44, R47, R48: at the 200th cell the driver is released and the receiver enters DRAIN; the
halves exchange, the echo is GOOD exactly where preamble, data and CRC are read back as sent, and the standing
takes the result. A frame that PORT RESET abandoned resets the buffer instead; that the check field of a reset
half is 0 is the model's choice (log entry 13, DESIGN CHOICE). -/
def Obligations.OwnFrameEndJudgesTheEcho : Prop :=
  ∀ (readBack : List LineCell) (s : State), s.resetHeld = false → s.line.txActive = true →
    let good := hasViolation readBack = false ∧ bitsBeforeViolation readBack = frameBits s.line.pending
      ∧ checkMatches (halfBits s.line.pending) = true
    let k := min 255 (s.standing.failures + 1)
    ∃ t, exec (.ownFrameEnd readBack) s = .next t
      ∧ t.line.txActive = false ∧ t.line.rx.state = .drain
      ∧ (s.line.txAbandoned = true →
          t.line.pending = Half.reset ∧ t.line.sent = Half.reset ∧ t.line.echo = .notSent
            ∧ t.standing = s.standing ∧ t.notices = s.notices)
      ∧ (s.line.txAbandoned = false →
          t.line.sent = s.line.pending ∧ t.line.pending = s.line.sent
            ∧ (good → t.line.echo = .good) ∧ (¬good → t.line.echo = .failed))
      ∧ (s.line.txAbandoned = false → good → s.standing.state = .backoff →
          t.standing =
              { s.standing with
                state := .active, failures := 0, backoff := 0, goodRun := 0, occupant := none }
            ∧ t.notices = s.notices)
      ∧ (s.line.txAbandoned = false → good → s.standing.state = .isolated → s.standing.goodRun = 0 →
          t.standing = { s.standing with goodRun := 1 } ∧ t.notices = s.notices)
      ∧ (s.line.txAbandoned = false → good → s.standing.state = .isolated → s.standing.goodRun = 1 →
          t.standing =
              { s.standing with
                state := .active, failures := 0, backoff := 0, goodRun := 0, occupant := none }
            ∧ t.notices =
              s.notices.push (s.notice .rejoined s.standing.pad (some s.standing.failures)))
      ∧ (s.line.txAbandoned = false → ¬good → s.standing.state = .active →
          t.standing =
              { s.standing with
                state := .backoff, failures := 1, backoff := backoffLength s.identity 1, goodRun := 0 }
            ∧ t.notices = s.notices)
      ∧ (s.line.txAbandoned = false → ¬good → s.standing.state = .backoff → k ≠ 6 →
          t.standing =
              { s.standing with failures := k, backoff := backoffLength s.identity k, goodRun := 0 }
            ∧ t.notices = s.notices)
      ∧ (s.line.txAbandoned = false → ¬good → s.standing.state = .backoff → k = 6 →
          t.standing =
              { s.standing with
                state := .isolated, failures := 6, backoff := backoffLength s.identity 6, goodRun := 0 }
            ∧ t.notices = s.notices.push (s.notice .isolated s.standing.pad (some 6)))
      ∧ (s.line.txAbandoned = false → ¬good → s.standing.state = .isolated →
          t.standing =
              { s.standing with failures := k, backoff := backoffLength s.identity k, goodRun := 0 }
            ∧ t.notices = s.notices)
      ∧ (s.line.txAbandoned = false → good → s.standing.state ≠ .backoff →
          s.standing.state ≠ .isolated → t.standing = s.standing ∧ t.notices = s.notices)
      ∧ (s.standing.state.transmitting = false → t.standing = s.standing ∧ t.notices = s.notices)
      ∧ t =
        { s with
          inputs := { s.inputs with plRxd := t.inputs.plRxd }
          line :=
            { s.line with
              pending := t.line.pending, sent := t.line.sent, echo := t.line.echo, txActive := false,
              txAbandoned := false, txd := t.line.txd,
              rx := { s.line.rx with state := .drain, bits := [] } }
          standing := t.standing
          notices := t.notices
          free := s.free + 1 }

/-- R45: the back-off length for a failed-transmission count is one more than a two-bit group of the
identity; the lengths of Table 3-2 for identity 1805. -/
def Obligations.BackoffLengthIsATwoBitGroup : Prop :=
  (∀ (identity : Identity) (k : Nat), 1 ≤ k →
      let group := (k - 1) % 16
      backoffLength identity k =
        1 + (2 * (identity.getLsbD (2 * group + 1)).toNat + (identity.getLsbD (2 * group)).toNat))
    ∧ (∀ (identity : Identity) (k : Nat), 1 ≤ backoffLength identity k ∧ backoffLength identity k ≤ 4)
    ∧ [1, 2, 3, 4, 5, 6].map (backoffLength 1805) = [2, 4, 1, 1, 4, 2]

/-! ### The peer view -/

/-- R57 to R60, R192, 04, section 4.2: on its grant a claim is filed in the entry of the pad it carries, which
becomes LIVE and heard with the claim's fields; the notices are HELD_CLEARED, IDENTITY_CHANGED and VIEW_MISMATCH
as the entry stood before; no other entry changes. Bit n of the held set is set exactly where pad n is HELD, and
each count is the number of entries in its state. That VIEW_MISMATCH comes after the other two is the model's
reading (log entry 20, DEDUCED). -/
def Obligations.ClaimFiledMakesTheEntryLive : Prop :=
  ∀ (c : Claim) (s : State), s.resetHeld = false → s.store.grant = some .claimWrite →
    s.line.register = some c → c.pad < s.view.entries.length →
    let e := s.view.entry c.pad
    ∃ t, exec .claimFiled s = .next t
      ∧ (t.view.entry c.pad).state = .live ∧ (t.view.entry c.pad).claim = some c
      ∧ (t.view.entry c.pad).heard = true ∧ (t.view.entry c.pad).age = some 0
      ∧ (t.view.entry c.pad).reserve = none ∧ (t.view.entry c.pad).expected = e.expected
      ∧ (∀ x, e.expected = some x → x < c.commit →
          (t.view.entry c.pad).mismatch = true ∧ (t.view.entry c.pad).excess = some (c.commit - x))
      ∧ ((∀ x, e.expected = some x → c.commit ≤ x) →
          (t.view.entry c.pad).mismatch = false ∧ (t.view.entry c.pad).excess = none)
      ∧ (∀ pad, pad ≠ c.pad → t.view.entry pad = s.view.entry pad)
      ∧ t.view.entries.length = s.view.entries.length
      ∧ (∀ pad < 36, t.view.held.getLsbD pad = true ↔ (t.view.entry pad).state = .held)
      ∧ (∀ entries : List Entry,
          (∀ pad < 36, (heldOf entries).getLsbD pad = true ↔
            (entries.getD pad Entry.blank).state = .held)
          ∧ ∀ st : EntryState, countOf entries st = (entries.filter fun e => decide (e.state = st)).length)
      ∧ t.notices =
        ((if e.state = .held ∨ e.state = .adopted then
            [s.notice .heldCleared (some c.pad) (some (e.reserve.getD 0))] else [])
          ++ (if (e.state = .live ∨ e.state = .stale ∨ e.state = .held) ∧ e.claim.isSome = true
                ∧ e.claim.map Claim.identity ≠ some c.identity then
              [s.notice .identityChanged (some c.pad) (some c.identity.toNat)] else [])
          ++ (if (t.view.entry c.pad).mismatch = true ∧ e.mismatch = false then
              [s.notice .viewMismatch (some c.pad) (t.view.entry c.pad).excess] else [])).foldl
          NoticeQueue.push s.notices
      ∧ t =
        { s with
          view :=
            { t.view with
              held := heldOf t.view.entries
              liveCount := countOf t.view.entries .live
              staleCount := countOf t.view.entries .stale
              heldCount := countOf t.view.entries .held
              adoptedCount := countOf t.view.entries .adopted
              cursor := s.view.cursor }
          store := s.store.release
          line := { s.line with register := none }
          notices := t.notices }

/-- R22, R61, R63 to R65: the sweep point requests the view store for the sweep. The sweep ages every entry
but the own one, then adopts the EMPTY ones that a LIVE entry's held mask names and empties the ADOPTED ones
that none names; it removes every mismatch excess. -/
def Obligations.SweepAgesAdoptsAndReleases : Prop :=
  (∀ s : State, s.resetHeld = false → s.store.grant = some .sweep → s.view.entries.length = 36 →
       ∃ t, exec .sweep s = .next t
         ∧ t.view.entries.length = 36
         ∧ (∀ pad < 36, s.standing.pad = some pad → t.view.entry pad = s.view.entry pad)
         ∧ (∀ pad < 36, s.standing.pad ≠ some pad →
             let e := s.view.entry pad
             let e' := t.view.entry pad
             let named := ∃ q < 36, (t.view.entry q).state = .live
               ∧ ∃ c, (t.view.entry q).claim = some c ∧ c.heldMask.getLsbD pad = true
             e'.excess = none
               ∧ (e.state = .live → e.heard = true →
                 e' = { e with
                   heard := false, age := some 0, excess := none
                   reserve := e.claim.map fun c => max c.draw c.commit })
               ∧ (∀ a, e.state = .live → e.heard = false → e.age = some a →
                 e' = { e with
                   age := some (a + 1), excess := none, state := if a + 1 < 3 then .live else .stale })
               ∧ (∀ a, e.state = .stale → e.age = some a → a + 1 < 12 →
                 e' = { e with age := some (a + 1), excess := none })
               ∧ (∀ a r, e.state = .stale → e.age = some a → 12 ≤ a + 1 → e.reserve = some r → 1 ≤ r →
                 e' = { e with age := some (a + 1), excess := none, state := .held })
               ∧ (∀ a, e.state = .held → e.age = some a →
                 e' = { e with age := some (min 255 (a + 1)), excess := none })
               ∧ (e.state = .adopted → named → e' = { e with excess := none })
               ∧ (e.state = .adopted → ¬named → e' = Entry.blank)
               ∧ ((e.state = .empty
                     ∨ ∃ a, e.state = .stale ∧ e.age = some a ∧ 12 ≤ a + 1 ∧ e.reserve = some 0) →
                 named →
                 e'.state = .adopted ∧ e'.reserve = some s.cfg.adoptionReserve ∧ e'.claim = none
                   ∧ e'.age = none ∧ e'.heard = false)
               ∧ (e.state = .empty → ¬named → e' = { e with excess := none })
               ∧ (∀ a, e.state = .stale → e.age = some a → 12 ≤ a + 1 → e.reserve = some 0 → ¬named →
                 e' = Entry.blank))
         ∧ t.notices =
           (((List.range 36).filter fun pad =>
               (s.view.entry pad).state == .stale && (t.view.entry pad).state == .held).map fun pad =>
             s.notice .heldSet (some pad) (some ((s.view.entry pad).reserve.getD 0))).foldl
             NoticeQueue.push s.notices
         ∧ t =
           { s with
             view :=
               { t.view with
                 held := heldOf t.view.entries
                 liveCount := countOf t.view.entries .live
                 staleCount := countOf t.view.entries .stale
                 heldCount := countOf t.view.entries .held
                 adoptedCount := countOf t.view.entries .adopted
                 cursor := s.view.cursor }
             store := s.store.release
             notices := t.notices })
    ∧ (∀ s : State, s.resetHeld = false → s.due.sweepPoint = true →
           ∃ t, exec .sweepPoint s = .next t
             ∧ (s.store.grant = none → t.store = { s.store with grant := some .sweep })
             ∧ (s.store.grant ≠ none → t.store = { s.store with waiting := s.store.waiting ++ [.sweep] })
             ∧ t = { s with due := { s.due with sweepPoint := false }, store := t.store })

/-- R66: the expected-commit write gives each peer participant's entry its share, and takes the expected
commit from every other entry; the own entry is passed over. -/
def Obligations.ExpectedCommitsAreTheShares : Prop :=
  ∀ s : State, s.resetHeld = false → s.store.grant = some .expectedWrite →
    ∃ t, exec .expectedCommitWrite s = .next t
      ∧ (∀ pad < s.view.entries.length, s.standing.pad = some pad →
          t.view.entry pad = s.view.entry pad)
      ∧ (∀ pad < s.view.entries.length, s.standing.pad ≠ some pad →
          t.view.entry pad = { s.view.entry pad with expected := (t.view.entry pad).expected }
            ∧ ((∀ row ∈ s.share.published.rows, row.pad ≠ pad) → (t.view.entry pad).expected = none)
            ∧ ∀ row ∈ s.share.published.rows, row.pad = pad →
              (∀ row' ∈ s.share.published.rows, row'.pad = pad → row' = row) →
              (t.view.entry pad).expected = some row.share)
      ∧ t =
        { s with
          view :=
            { t.view with
              held := heldOf t.view.entries
              liveCount := countOf t.view.entries .live
              staleCount := countOf t.view.entries .stale
              heldCount := countOf t.view.entries .held
              adoptedCount := countOf t.view.entries .adopted
              cursor := s.view.cursor }
          store := s.store.release }

/-- R72, R73, R184, R192: the walk of READ VIEW from its position upward, wrapping from 35 to 0, ends with the
entry that gives the last record asked for, or after 36 entries; the cursor is left after it, and the
records are those of the entries not passed over, of 30 bytes each as Table 11-6 lays them out, the own entry's
being SELF with the sent half's claim. -/
def Obligations.ReadViewWalksTheEntries : Prop :=
  ∀ (start : Option Nat) (count : Nat) (skip : Bool) (w : PortWait) (s : State), s.resetHeld = false →
    s.store.grant = some .readView → s.port.waiting = some w → w.command = .readView start count skip →
    start.getD s.view.cursor < 36 → 1 ≤ count →
    let pos := start.getD s.view.cursor
    let given : Nat → List Nat := fun n =>
      ((List.range n).map fun i => (pos + i) % 36).filter fun pad =>
        !(skip && s.standing.pad != some pad && (s.view.entry pad).state == .empty)
    let flag : Bool → Nat → Nat := fun b n => if b then n else 0
    let record : Nat → List Byte := fun pad =>
      if s.standing.pad = some pad then
        [BitVec.ofNat 8 pad, 5, 1] ++ claimBytes { s.line.sent.claim with pad := pad }
          ++ [0, 0, 0, 0, 0]
      else
        let e := s.view.entry pad
        [BitVec.ofNat 8 pad, BitVec.ofNat 8 (entryCode e.state),
            BitVec.ofNat 8 (flag e.claim.isSome 1 + flag e.age.isSome 2 + flag e.reserve.isSome 4
              + flag e.expected.isSome 8 + flag e.heard 16 + flag e.mismatch 32)]
          ++ (match e.claim with
            | some c => claimBytes c
            | none => List.replicate 22 0)
          ++ byte1 (e.age.getD 0) ++ byte2 (e.reserve.getD 0) ++ byte2 (e.expected.getD 0)
    ∃ (n : Nat) (t : State), exec .readViewAccess s = .next t
      ∧ (∀ c : Claim, (claimBytes c).length = 22
          ∧ (claimBytes c).flatMap (fun b => bitsOfNat 8 b.toNat) = claimBits c)
      ∧ (∀ pad, (record pad).length = 30)
      ∧ [EntryState.empty, .live, .stale, .held, .adopted].map entryCode = [0, 1, 2, 3, 4]
      ∧ n ≤ 36 ∧ ((given n).length = count ∨ (n = 36 ∧ (given n).length < count))
      ∧ (∀ m < n, (given m).length < count)
      ∧ t =
        { s with
          view := { s.view with cursor := (pos + n) % 36 }
          store := s.store.release
          port := s.port.finishing w
            (0x80 :: BitVec.ofNat 8 (1 + 30 * (given n).length)
              :: BitVec.ofNat 8 (given n).length :: (given n).flatMap record) }

/-- R74, R185: RELEASE HELD empties the HELD and ADOPTED entries that its ranges name, in order, with
HELD_CLEARED for each, skips EMPTY ones and the own one, and stops at the first LIVE or STALE one. -/
def Obligations.ReleaseHeldEmptiesUpToALivePad : Prop :=
  ∀ (ranges : List (Nat × Nat)) (w : PortWait) (before rest : List Nat) (s : State),
    s.resetHeld = false → s.store.grant = some .releaseHeld → s.port.waiting = some w →
    w.command = .releaseHeld ranges → s.view.entries.length = 36 →
    (ranges.flatMap fun r => ((List.range r.2).map (r.1 + ·)).filter (· < 36)) = before ++ rest →
    (∀ pad ∈ before, s.standing.pad = some pad
      ∨ ((s.view.entry pad).state ≠ .live ∧ (s.view.entry pad).state ≠ .stale)) →
    (∀ pad ∈ rest.head?, s.standing.pad ≠ some pad
      ∧ ((s.view.entry pad).state = .live ∨ (s.view.entry pad).state = .stale)) →
    let releases : Nat → Bool := fun pad =>
      s.standing.pad != some pad
        && ((s.view.entry pad).state == .held || (s.view.entry pad).state == .adopted)
    let released := before.eraseDups.filter releases
    ∃ t, exec .releaseHeldAccess s = .next t
      ∧ (∀ pad < 36, pad ∈ released → t.view.entry pad = Entry.blank)
      ∧ (∀ pad < 36, pad ∉ released → t.view.entry pad = s.view.entry pad)
      ∧ t.view.entries.length = 36
      ∧ t.notices =
        (released.map fun pad =>
          s.notice .heldCleared (some pad) (some ((s.view.entry pad).reserve.getD 0))).foldl
          NoticeQueue.push s.notices
      ∧ t.port = s.port.finishing w
        (match rest with
          | [] => [0x80, 1, BitVec.ofNat 8 released.length]
          | pad :: _ => [0x82, 2, BitVec.ofNat 8 pad, BitVec.ofNat 8 released.length])
      ∧ (released = [] → t.view = s.view)
      ∧ (released ≠ [] → t.view.held = heldOf t.view.entries
          ∧ t.view.liveCount = countOf t.view.entries .live
          ∧ t.view.staleCount = countOf t.view.entries .stale
          ∧ t.view.heldCount = countOf t.view.entries .held
          ∧ t.view.adoptedCount = countOf t.view.entries .adopted)
      ∧ t =
        { s with
          view :=
            { s.view with
              entries := t.view.entries, held := t.view.held, liveCount := t.view.liveCount,
              staleCount := t.view.staleCount, heldCount := t.view.heldCount,
              adoptedCount := t.view.adoptedCount }
          store := s.store.release
          notices := t.notices
          port := t.port }

/-- R78, R187: PORT RESET's access empties every entry but the HELD ones, which lose only their expected
commits and mismatches; the cursor returns to 0 and the command is answered. -/
def Obligations.PortResetAccessKeepsOnlyHeldEntries : Prop :=
  ∀ (w : PortWait) (s : State), s.resetHeld = false → s.store.grant = some .portResetView →
    s.port.waiting = some w →
    ∃ t, exec .portResetViewAccess s = .next t
      ∧ (∀ pad < s.view.entries.length, (s.view.entry pad).state = .held →
          t.view.entry pad =
            { s.view.entry pad with expected := none, mismatch := false, excess := none })
      ∧ (∀ pad < s.view.entries.length, (s.view.entry pad).state ≠ .held →
          t.view.entry pad = Entry.blank)
      ∧ t.view.held = heldOf s.view.entries ∧ t.view.heldCount = countOf s.view.entries .held
      ∧ t.view.liveCount = 0 ∧ t.view.staleCount = 0 ∧ t.view.adoptedCount = 0 ∧ t.view.cursor = 0
      ∧ t.notices = s.notices
      ∧ t = { s with
          view := t.view, store := s.store.release, port := s.port.finishing w [0x80, 0] }

/-! ### The computation of the round -/

/-- R21, R84, R85, R135, R137, R138: the compute point sets the own curtail state by its three clauses and
renews the curtail memory, clears the turn walk, fixes the own candidacy, and requests the snapshot. -/
def Obligations.ComputePointSettlesCurtailAndCandidacy : Prop :=
  ∀ s : State, s.resetHeld = false → s.due.compute = true →
    ∃ t, exec .computePoint s = .next t
      ∧ (t.limit.ownCurtail = true ↔ s.qual.curtail.level = true ∨ s.limit.assertionSeen = true
          ∨ (s.limit.ownCurtail = true ∧ s.limit.levelSeen = true))
      ∧ t.limit.assertionSeen = false ∧ t.limit.levelSeen = s.qual.curtail.level
      ∧ t.turn.ownTurn = false ∧ t.turn.order = [] ∧ t.turn.given = [] ∧ t.turn.deciding = true
      ∧ t.turn.barred = false
      ∧ (t.turn.ownCandidate.isSome = true ↔ s.session.state = .intent ∧ s.standing.state = .active
          ∧ s.line.echo = .good ∧ s.line.sent.claim.intent = .connect)
      ∧ (∀ c, t.turn.ownCandidate = some c →
          c.branch = s.cfg.branch ∧ c.age = s.line.sent.claim.intentAge
            ∧ ∀ pad, s.standing.pad = some pad → c.pad = pad)
      ∧ t.share.phase = .awaitingSnapshot ∧ t.share.published = s.share.published
      ∧ t.store = s.store.request .snapshot
      ∧ t =
        { s with
          due := { s.due with compute := false }
          limit :=
            { s.limit with
              ownCurtail := t.limit.ownCurtail, assertionSeen := t.limit.assertionSeen,
              levelSeen := t.limit.levelSeen }
          turn :=
            { s.turn with
              order := t.turn.order, given := t.turn.given, ownTurn := t.turn.ownTurn,
              ownCandidate := t.turn.ownCandidate, deciding := t.turn.deciding,
              barred := t.turn.barred }
          share := t.share
          store := t.store }

/-- R67, R80 to R82, R86, R91, R92: the snapshot is the view without the own entry, the sent claim and the echo;
the limits in force are the least over the limit set, whose members are the own station with its limits from
SETUP and the LIVE, STALE and HELD entries with theirs; curtailment is in force by the own state or a LIVE
entry's flag; the budgets are what the loads leave; a change of the flag raises its notice. -/
def Obligations.SnapshotGivesLimitsAndBudgets : Prop :=
  ∀ s : State, s.resetHeld = false → s.store.grant = some .snapshot →
    s.share.phase = .awaitingSnapshot →
    ∃ (t : State) (snap : Snapshot), exec .snapshotCopy s = .next t
      ∧ t.share = { s.share with phase := .computing, snapshot := some snap }
      ∧ snap.own = s.line.sent.claim ∧ snap.echo = s.line.echo
      ∧ (∀ pad < s.view.entries.length,
          snap.entries.getD pad Entry.blank =
            if s.standing.pad = some pad then Entry.blank
            else { s.view.entry pad with age := none, expected := none, mismatch := false })
      ∧ (t.limit.inForce = true ↔ s.limit.ownCurtail = true
          ∨ ∃ e ∈ snap.entries, e.state = .live ∧ ∃ c, e.claim = some c ∧ c.curtailFlag = true)
      ∧ (let members := limitSet s.cfg snap.entries;
          (∀ m, m ∈ members ↔
              m = { branch := s.cfg.branch, branchLimit := s.cfg.branchLimit,
                    feederLimit := s.cfg.feederLimit, curtailLimit := s.cfg.curtailLimit }
              ∨ ∃ e ∈ snap.entries,
              (e.state = .live ∨ e.state = .stale ∨ e.state = .held) ∧ ∃ c, e.claim = some c
                ∧ m = { branch := c.branch, branchLimit := c.branchLimit,
                        feederLimit := c.feederLimit, curtailLimit := c.curtailLimit })
            ∧ (∀ m ∈ members, t.limit.feeder ≤ m.feederLimit
                ∧ (t.limit.inForce = true → t.limit.feeder ≤ m.curtailLimit))
            ∧ (∃ m ∈ members, t.limit.feeder = m.feederLimit
                ∨ (t.limit.inForce = true ∧ t.limit.feeder = m.curtailLimit))
            ∧ ∀ branch < 6,
              (∀ m ∈ members, m.branch = branch → t.limit.branches.getD branch 0 ≤ m.branchLimit)
                ∧ ((∃ m ∈ members, m.branch = branch
                      ∧ t.limit.branches.getD branch 0 = m.branchLimit)
                    ∨ ((∀ m ∈ members, m.branch ≠ branch)
                      ∧ t.limit.branches.getD branch 0 = 16000))
                ∧ t.limit.branchBudgets.getD branch 0 =
                  t.limit.branches.getD branch 0 - branchLoad (snap.loads s.cfg.branch) branch)
      ∧ t.limit.feederBudget = t.limit.feeder - feederLoad (snap.loads s.cfg.branch)
      ∧ t.notices =
        (if t.limit.inForce = true ∧ s.limit.inForce = false then
          s.notices.push (s.notice .curtailOn none (some t.limit.feeder))
        else if t.limit.inForce = false ∧ s.limit.inForce = true then
          s.notices.push (s.notice .curtailOff none (some t.limit.feeder))
        else s.notices)
      ∧ t =
        { s with
          store := s.store.release
          share := t.share
          limit :=
            { s.limit with
              inForce := t.limit.inForce, feeder := t.limit.feeder, branches := t.limit.branches,
              feederBudget := t.limit.feederBudget, branchBudgets := t.limit.branchBudgets }
          notices := t.notices }

/-- R89, R90, R88: what the fixed loads and reservations of a computation come to. A heard entry of another
kind than ACTIVE counts max(draw, commit), an unheard, STALE or HELD one its reserve, each on its branch; an
ADOPTED one its reserve on every branch; a mismatch excess counts beside; the own station counts by its echo
and kind. All count on the feeder. -/
def Obligations.LoadsAreFixedLoadsAndReservations : Prop :=
  ∀ (snap : Snapshot) (ownBranch : Nat),
    let own := if snap.echo = .notSent ∨ snap.own.kind ≠ .active then max snap.own.draw snap.own.commit else 0
    let base : Entry → Nat := fun e =>
      match e.claim with
      | some c =>
        if e.state = .live ∧ e.heard = true then (if c.kind = .active then 0 else max c.draw c.commit)
        else if e.state = .empty then 0
        else e.reserve.getD 0
      | none => if e.state = .adopted then e.reserve.getD 0 else 0
    let excess : Entry → Nat := fun e => if e.claim.isSome then e.excess.getD 0 else 0
    feederLoad (snap.loads ownBranch) = own + (snap.entries.map fun e => base e + excess e).sum
      ∧ ∀ branch, branchLoad (snap.loads ownBranch) branch =
        (if branch = ownBranch then own else 0)
          + (snap.entries.map fun e =>
              (if e.state = .adopted ∨ e.claim.map Claim.branch = some branch then base e else 0)
                + (if e.claim.map Claim.branch = some branch then excess e else 0)).sum

/-- R96 to R98, R109, R110: a completion publishes one row for each participant, in ascending pad order: the
peers that are LIVE, heard and ACTIVE, and the own station where its ACTIVE claim was sent. Those with request 0
or a floor above the request are set aside. A participant takes branch, request, floor and weight from its
claim, the own station its branch from SETUP, and a weight of 0 counts as 1. The figures are published with the
rows, the level and the count of the fills over the participants that are not set aside among them, and an own
share of 0 where the own station has no row; the expected-commit write is requested. That the snapshot and the
participant list are kept after it is the model's choice (log entry 21, DESIGN CHOICE). -/
def Obligations.CompletionPublishesTheResults : Prop :=
  ∀ (snap : Snapshot) (s : State), s.resetHeld = false → s.share.phase = .computing →
    s.share.snapshot = some snap →
    ∃ t, exec .completion s = .next t
      ∧ (t.share.published.rows.map ResultRow.pad).Pairwise (· < ·)
      ∧ (∀ pad < 36, s.standing.pad ≠ some pad →
          ((∃ row ∈ t.share.published.rows, row.pad = pad) ↔
            (snap.entries.getD pad Entry.blank).state = .live
              ∧ (snap.entries.getD pad Entry.blank).heard = true
              ∧ ∃ c, (snap.entries.getD pad Entry.blank).claim = some c ∧ c.kind = .active))
      ∧ (∀ pad < 36, s.standing.pad = some pad →
          ((∃ row ∈ t.share.published.rows, row.pad = pad) ↔
            snap.echo ≠ .notSent ∧ snap.own.kind = .active)
          ∧ (t.share.published.ownParticipant = true ↔ ∃ row ∈ t.share.published.rows, row.pad = pad)
          ∧ (∀ row ∈ t.share.published.rows, row.pad = pad → t.share.published.ownShare = row.share))
      ∧ ((∀ row ∈ t.share.published.rows, s.standing.pad ≠ some row.pad) →
          t.share.published.ownShare = 0 ∧ t.share.published.ownParticipant = false)
      ∧ (∀ row ∈ t.share.published.rows, row.pad < 36)
      ∧ t.share.published.rows.map (fun r => (r.pad, r.branch)) =
        t.share.participants.map (fun p => (p.pad, p.branch))
      ∧ t.share.published.rows = resultRows s.limit.budgets t.share.participants
      ∧ (∀ p ∈ t.share.participants,
          (s.standing.pad ≠ some p.pad →
            ∃ c, (snap.entries.getD p.pad Entry.blank).claim = some c
              ∧ p = { pad := p.pad, branch := c.branch, request := c.request, floor := c.floor,
                      weight := max 1 c.weight })
          ∧ (s.standing.pad = some p.pad →
            p = { pad := p.pad, branch := s.cfg.branch, request := snap.own.request,
                  floor := snap.own.floor, weight := max 1 snap.own.weight }))
      ∧ (∀ p ∈ t.share.participants, p.request = 0 ∨ p.request < p.floor →
          ∀ row ∈ t.share.published.rows, row.pad = p.pad →
            row.share = 0 ∧ row.disposition = .setAside)
      ∧ t.share.published.participantCount = t.share.published.rows.length
      ∧ 1 ≤ t.share.published.fillCount ∧ t.share.published.fillCount ≤ 10
      ∧ t.share.published.lastLevel ≤ 16383
      ∧ (let out := runFills s.limit.budgets 10
            (t.share.participants.filter fun p => !(p.request == 0 || decide (p.request < p.floor))) [];
          t.share.published.lastLevel = out.level ∧ t.share.published.fillCount = out.count)
      ∧ t.share.published.stamp = s.timer.roundCounter
      ∧ t.share.published.feederBudget = s.limit.feederBudget
      ∧ t.share.published.ownBranchBudget = s.limit.branchBudgets.getD s.cfg.branch 0
      ∧ t.share.phase = .none ∧ t.share.snapshot = s.share.snapshot
      ∧ t = { s with share := t.share, store := s.store.request .expectedWrite }

/-- R108: each share of a completed computation is zero, or lies between its participant's floor and
request. -/
def Obligations.EachShareIsZeroOrBetweenFloorAndRequest : Prop :=
  ∀ (snap : Snapshot) (s : State), s.resetHeld = false → s.share.phase = .computing →
    s.share.snapshot = some snap →
    ∃ t, exec .completion s = .next t
      ∧ ∀ row ∈ t.share.published.rows, ∃ p ∈ t.share.participants,
        p.pad = row.pad ∧ p.branch = row.branch
          ∧ (row.share = 0 ∨ (p.floor ≤ row.share ∧ row.share ≤ p.request))

/-- 06, section 6.5 (R109): the shares on a branch sum to no more than its budget, and all shares to no more
than the feeder budget. -/
def Obligations.SharesStayWithinTheBudgets : Prop :=
  ∀ (snap : Snapshot) (s : State), s.resetHeld = false → s.share.phase = .computing →
    s.share.snapshot = some snap →
    ∃ t, exec .completion s = .next t
      ∧ sharesInAll t.share.published.rows ≤ s.limit.feederBudget
      ∧ ∀ branch < 6,
        sharesOnBranch t.share.published.rows branch ≤ s.limit.branchBudgets.getD branch 0

/-- 06, sections 6.2 to 6.4 (R98 to R102, R104 to R107): the share at a level is min(R, floor(W x L / 16)), or
the frozen one. The level a stage finds is the largest up to 16383 that fits. At level 16383, or where the total
one level up exceeds FB, every participant freezes and the fill ends; else those on the branches whose sums
exceed their budgets freeze, and the next stage follows while one is left. A fill of n participants has at most
n stages, and one of none ends at once at level 0. After fills 1 to 8 the one participant below its floor with
the lowest weight, and the highest pad among those, is excluded, after fill 9 all of them; a fill that leaves
none below, or fill 10, is the last, and whoever is below its floor after it is excluded. -/
def Obligations.FillLevelIsTheLargestThatFits : Prop :=
  (∀ (b : Budgets) (ms : List FillMember), fits b ms 0 = true →
      topLevel b ms ≤ 16383 ∧ fits b ms (topLevel b ms) = true
        ∧ ∀ level ≤ 16383, fits b ms level = true → level ≤ topLevel b ms)
    ∧ (∀ (ps : List Participant), ps ≠ [] →
      ∃ p ∈ ps, pickExcluded ps = some p
        ∧ ∀ q ∈ ps, p.weight < q.weight ∨ (p.weight = q.weight ∧ q.pad ≤ p.pad))
    ∧ (∀ (m : FillMember) (level : Nat),
      (m.frozen = none → m.shareAt level = min m.part.request (m.part.weight * level / 16))
        ∧ ∀ kw, m.frozen = some kw → m.shareAt level = kw)
    ∧ (∀ (b : Budgets) (ms : List FillMember) (level : Nat),
      fits b ms level = true ↔ (ms.map fun m => m.shareAt level).sum ≤ b.feeder
        ∧ ∀ branch < 6, ((ms.filter fun m => m.part.branch = branch).map fun m => m.shareAt level).sum
          ≤ b.branches.getD branch 0)
    ∧ (∀ (b : Budgets) (fuel : Nat) (ms : List FillMember),
      let top := topLevel b ms
      let sum : List FillMember → Nat := fun l => (l.map fun m => m.shareAt (top + 1)).sum
      let frozen : FillMember → FillMember := fun m => { m with frozen := some (m.shareAt top) }
      let next := ms.map fun m =>
        if b.branches.getD m.part.branch 0 < sum (ms.filter fun k => k.part.branch = m.part.branch) then
          frozen m
        else m
      (top = 16383 ∨ b.feeder < sum ms → fillStages b (fuel + 1) ms = (top, ms.map frozen))
        ∧ (top ≠ 16383 → sum ms ≤ b.feeder → (∀ m ∈ next, m.frozen.isSome = true) →
          fillStages b (fuel + 1) ms = (top, next))
        ∧ (top ≠ 16383 → sum ms ≤ b.feeder → (∃ m ∈ next, m.frozen = none) →
          fillStages b (fuel + 1) ms = fillStages b fuel next))
    ∧ (∀ b : Budgets, runFill b [] = (0, []))
    ∧ (∀ (b : Budgets) (ps : List Participant) (fuel : Nat), ps ≠ [] → ps.length ≤ fuel →
      fillStages b fuel (ps.map fun p => { part := p, frozen := none }) = runFill b ps)
    ∧ (∀ (b : Budgets) (left : Nat) (ps : List Participant) (excluded : List Nat),
      let fill := runFill b ps
      let below := (fill.2.filter fun m => m.frozen.getD 0 < m.part.floor).map FillMember.part
      (below = [] ∨ left = 0 →
          runFills b (left + 1) ps excluded =
            { count := 10 - left, level := fill.1, members := fill.2,
              excluded := excluded ++ below.map Participant.pad })
        ∧ (∀ p, pickExcluded below = some p → 2 ≤ left →
          runFills b (left + 1) ps excluded =
            runFills b left (ps.filter fun q => q.pad ≠ p.pad) (excluded ++ [p.pad]))
        ∧ (below ≠ [] → left = 1 →
          runFills b (left + 1) ps excluded =
            runFills b left (ps.filter fun q => q.pad ∉ below.map Participant.pad)
              (excluded ++ below.map Participant.pad)))
    ∧ ∀ (b : Budgets) (ps : List Participant),
      let aside : Participant → Bool := fun p => decide (p.request = 0 ∨ p.request < p.floor)
      let out := runFills b 10 (ps.filter fun p => !aside p) []
      resultRows b ps = ps.map fun p =>
        if aside p then { pad := p.pad, branch := p.branch, share := 0, disposition := .setAside }
        else if p.pad ∈ out.excluded then
          { pad := p.pad, branch := p.branch, share := 0, disposition := .excluded }
        else
          { pad := p.pad, branch := p.branch
            share := ((out.members.find? fun m => m.part.pad == p.pad).bind FillMember.frozen).getD 0
            disposition := .filled }

/-- R120 to R126, R128, R148: the applied setpoint by its four cases and two ceilings, the last echoed
commit, the grant register, the pulse on SPCHG where the setpoint changes, which ends one slot period later,
and the open timeout cleared by a setpoint above 0. -/
def Obligations.ApplyPointSetsTheSetpointByCase : Prop :=
  (∀ s : State, s.resetHeld = false → s.due.apply = true →
       let g := if s.share.published.ownParticipant then s.share.published.ownShare else 0
       let forced := s.standing.state = .conflict ∨ s.session.state = .stopping ∨ s.session.state = .fault
       ∃ t, exec .applyPoint s = .next t
         ∧ (forced → t.applyUnit.applied = 0)
         ∧ (¬forced → s.line.echo = .good →
             t.applyUnit.applied = min (min g s.applyUnit.lastCommit) s.cfg.chargerRating)
         ∧ (¬forced → s.line.echo = .failed →
             t.applyUnit.applied =
               min (min (min g s.applyUnit.applied) s.applyUnit.lastEchoed) s.cfg.chargerRating)
         ∧ (¬forced → s.line.echo = .notSent →
             t.applyUnit.applied =
               min (min s.applyUnit.applied s.applyUnit.lastEchoed) s.cfg.chargerRating)
         ∧ t.applyUnit.lastEchoed =
           (if s.line.echo = .good then s.applyUnit.lastCommit else s.applyUnit.lastEchoed)
         ∧ t.applyUnit.grant =
           (if s.share.published.ownParticipant then g else t.applyUnit.applied)
         ∧ (t.applyUnit.spchg = true ↔ t.applyUnit.applied ≠ s.applyUnit.applied)
         ∧ t.seq.openTimeout = (if 0 < t.applyUnit.applied then 0 else s.seq.openTimeout)
         ∧ t =
           { s with
             due := { s.due with apply := false }
             applyUnit :=
               { s.applyUnit with
                 applied := t.applyUnit.applied, lastEchoed := t.applyUnit.lastEchoed,
                 grant := t.applyUnit.grant, spchg := t.applyUnit.spchg }
             seq := { s.seq with openTimeout := t.seq.openTimeout } })
    ∧ (∀ s : State, s.resetHeld = false → s.due.spchgEnd = true →
           exec .spchgPulseEnd s =
             .next { s with
               due := { s.due with spchgEnd := false }, applyUnit := { s.applyUnit with spchg := false } })

/-! ### Turns and contactors -/

/-- 08, section 8.2 (R135 to R137): the candidates are the entries of the snapshot that are LIVE and heard with
intent CONNECT, with the claim's branch and intent age, and the own candidate. The walk of a turn decision goes
down the candidate order from its head: a candidate gets a turn unless curtailment is in force, a claim heard
this round carries SWITCHED on its branch, an earlier candidate has the turn of its branch, or two earlier
candidates have turns. The own-turn flag says whether the own pad has one. -/
def Obligations.TurnWalkGivesOnePerBranchAndTwoInAll : Prop :=
  ∀ (snap : Snapshot) (s : State), s.resetHeld = false → s.turn.deciding = true →
    s.share.snapshot = some snap →
    let blocked : Nat → Prop := fun branch =>
      (∃ pad < 36, s.standing.pad ≠ some pad
        ∧ ∃ claim, (snap.entries.getD pad Entry.blank).claim = some claim
          ∧ (snap.entries.getD pad Entry.blank).heard = true ∧ claim.intent = .switched
          ∧ claim.branch = branch)
      ∨ (∃ pad < 36, s.standing.pad = some pad) ∧ snap.echo ≠ .notSent ∧ snap.own.intent = .switched
        ∧ s.cfg.branch = branch
    ∃ t, exec .turnDecision s = .next t
      ∧ t.turn.given.Sublist t.turn.order ∧ t.turn.given.length ≤ 2
      ∧ (t.turn.given.map Candidate.branch).Nodup
      ∧ (s.limit.inForce = true → t.turn.given = [])
      ∧ (∀ c ∈ t.turn.given, ¬blocked c.branch)
      ∧ (∀ before c after, t.turn.order = before ++ c :: after →
          c ∈ t.turn.given ∨ s.limit.inForce = true ∨ blocked c.branch
            ∨ (∃ d ∈ before, d ∈ t.turn.given ∧ d.branch = c.branch)
            ∨ 2 ≤ (before.filter fun d => d ∈ t.turn.given).length)
      ∧ (s.limit.inForce = false → t.turn.given.length < 2 → ∀ c ∈ t.turn.order,
          c ∈ t.turn.given ∨ c.branch ∈ t.turn.given.map Candidate.branch ∨ blocked c.branch)
      ∧ t.turn.order.Pairwise (fun a b => b.age < a.age ∨ (a.age = b.age ∧ a.pad ≤ b.pad))
      ∧ (∀ c, c ∈ t.turn.order ↔
          (∃ pad < 36, s.standing.pad ≠ some pad ∧ (snap.entries.getD pad Entry.blank).state = .live
            ∧ (snap.entries.getD pad Entry.blank).heard = true
            ∧ ∃ claim, (snap.entries.getD pad Entry.blank).claim = some claim ∧ claim.intent = .connect
              ∧ c = { pad := pad, branch := claim.branch, age := claim.intentAge })
          ∨ (∃ pad < 36, s.standing.pad = some pad) ∧ s.turn.ownCandidate = some c)
      ∧ (∀ pad, s.standing.pad = some pad →
          (t.turn.ownTurn = true ↔ ∃ c ∈ t.turn.given, c.pad = pad))
      ∧ t.turn.deciding = false

/-- R136, R138, R139, R144, R160 to R162, R181: the own turn takes a session in INTENT to PRECHARGE and the
phase to TURN_TAKEN, but not after a conflict or a contactor fault since the compute point; the held events are
then taken in the order in which they arrived. A clash of the SWITCHED claims heard raises TURN_CLASH with their
number and the lowest pad on the lowest branch that carries two of them. No other waiting command of the port is
touched. Events held by a session that a conflict or a contactor fault has taken to RELEASED or FAULT meanwhile
act by that state. The model's readings are these: a held loss raises DOCK_LOST only when it is taken (log entry
18, DEDUCED); TURN_CLASH comes before the SESSION notice of the turn, and the held events' notices after both
(log entry 20, DEDUCED); a session that has left INTENT holds its events too (log entry 43, DEDUCED); and an END
that a fault has discarded is refused at the decision (log entry 19, DEDUCED). -/
def Obligations.TurnDecisionHandsTheOwnTurnOver : Prop :=
  ∀ (snap : Snapshot) (s : State), s.resetHeld = false → s.turn.deciding = true →
    s.share.snapshot = some snap →
    let heard := snap.switchedClaims s.standing.pad s.cfg.branch
    let on : Nat → List SwitchedClaim := fun branch => heard.filter fun c => c.branch == branch
    let clash : Bool := decide (3 ≤ heard.length)
      || (List.range 6).any fun branch => decide (2 ≤ (on branch).length)
    let ended : SessionState → Notice := fun st => s.sessionNotice st .endCommand
    let lost : Nat → Notice := fun kwh => s.notice .dockLost none (some kwh)
    ∃ (t : State) (pad : Option Nat), exec .turnDecision s = .next t
      ∧ (∀ c, c ∈ heard ↔
          (∃ p < 36, s.standing.pad ≠ some p ∧ (snap.entries.getD p Entry.blank).heard = true
            ∧ ∃ claim, (snap.entries.getD p Entry.blank).claim = some claim ∧ claim.intent = .switched
              ∧ c = { pad := p, branch := claim.branch })
          ∨ (∃ p < 36, s.standing.pad = some p ∧ snap.echo ≠ .notSent ∧ snap.own.intent = .switched
            ∧ c = { pad := p, branch := s.cfg.branch }))
      ∧ (∀ branch < 6, 2 ≤ (on branch).length → (∀ lower < branch, (on lower).length < 2) →
          ∃ p, pad = some p ∧ (∃ c ∈ on branch, c.pad = p) ∧ ∀ c ∈ on branch, p ≤ c.pad)
      ∧ ((∀ branch < 6, (on branch).length < 2) → pad = none)
      ∧ t.session.held = []
      ∧ (s.port.waiting = none → t.port = s.port)
      ∧ (.endCommand ∉ s.session.held → ∀ w, s.port.waiting = some w →
          (w.command ≠ .endCommand → t.port = s.port)
            ∧ (w.command = .endCommand → t.port = s.port.finishing w [0xC1, 0]))
      ∧ (let q := if clash then s.notices.push (s.notice .turnClash pad (some heard.length)) else s.notices
          let turn := q.push (s.sessionNotice .precharge .turn)
          (t.turn.ownTurn = true → s.session.state = .intent → s.turn.barred = false →
              (s.session.held = [] →
                t.session.state = .precharge ∧ t.seq = { s.seq with phase := .turnTaken }
                  ∧ t.notices = turn)
              ∧ (∀ r, s.session.record = some r → s.session.held = [.dockLoss] →
                t.session.state = .stopping
                  ∧ t.seq = { s.seq with phase := .turnTaken, openMode := .forced }
                  ∧ t.notices = (turn.push (lost r.delivered)).push (s.sessionNotice .stopping .dockLost))
              ∧ (s.session.held = [.endCommand] →
                t.session.state = .stopping ∧ t.notices = turn.push (ended .stopping)
                  ∧ (s.seq.openMode = .none →
                    t.seq = { s.seq with phase := .turnTaken, openMode := .normal })
                  ∧ ∀ w, s.port.waiting = some w → t.port = s.port.finishing w [0x80, 1, 5])
              ∧ (∀ r, s.session.record = some r → s.session.held = [.endCommand, .dockLoss] →
                t.session.state = .stopping
                  ∧ t.seq = { s.seq with phase := .turnTaken, openMode := .forced }
                  ∧ t.notices = (turn.push (ended .stopping)).push (lost r.delivered)
                  ∧ ∀ w, s.port.waiting = some w → t.port = s.port.finishing w [0x80, 1, 5])
              ∧ (∀ r, s.session.record = some r → s.session.held = [.dockLoss, .endCommand] →
                t.session.state = .stopping
                  ∧ t.seq = { s.seq with phase := .turnTaken, openMode := .forced }
                  ∧ t.notices = (turn.push (lost r.delivered)).push (s.sessionNotice .stopping .dockLost)
                  ∧ ∀ w, s.port.waiting = some w → t.port = s.port.finishing w [0xC1, 0]))
            ∧ (t.turn.ownTurn = false ∨ s.session.state ≠ .intent ∨ s.turn.barred = true →
              (s.session.held = [] →
                  t.session.state = s.session.state ∧ t.seq = s.seq ∧ t.notices = q)
                ∧ (∀ r, s.session.state = .intent → s.session.record = some r →
                  s.session.held = [.dockLoss] →
                  t.session.state = .vacant ∧ t.seq = s.seq
                    ∧ t.notices = (q.push (lost r.delivered)).push (s.sessionNotice .vacant .dockLost))
                ∧ (s.session.state = .intent → s.session.held = [.endCommand] →
                  t.session.state = .released ∧ t.seq = s.seq ∧ t.notices = q.push (ended .released)
                    ∧ ∀ w, s.port.waiting = some w → t.port = s.port.finishing w [0x80, 1, 6])
                ∧ (∀ r, s.session.state = .intent → s.session.record = some r →
                  s.session.held = [.endCommand, .dockLoss] →
                  t.session.state = .vacant ∧ t.seq = s.seq
                    ∧ t.notices = ((q.push (ended .released)).push (lost r.delivered)).push
                      (s.sessionNotice .vacant .dockLost)
                    ∧ ∀ w, s.port.waiting = some w → t.port = s.port.finishing w [0x80, 1, 6])
                ∧ (∀ r, s.session.state = .intent → s.session.record = some r →
                  s.session.held = [.dockLoss, .endCommand] →
                  t.session.state = .vacant ∧ t.seq = s.seq
                    ∧ t.notices = (q.push (lost r.delivered)).push (s.sessionNotice .vacant .dockLost)
                    ∧ ∀ w, s.port.waiting = some w → t.port = s.port.finishing w [0xC1, 0]))
            ∧ (s.session.state = .released ∨ s.session.state = .fault →
              let emptied : SessionState := if s.session.state = .released then .vacant else .fault
              let loss : Nat → NoticeQueue := fun kwh =>
                if s.session.state = .released then
                  (q.push (lost kwh)).push (s.sessionNotice .vacant .dockLost)
                else q.push (lost kwh)
              let refused : Prop := ∀ w, s.port.waiting = some w → w.command = .endCommand →
                t.port = s.port.finishing w [0xC1, 0]
              t.seq = s.seq
                ∧ (s.session.held = [] → t.session.state = s.session.state ∧ t.notices = q ∧ refused)
                ∧ (s.session.held = [.endCommand] →
                  t.session.state = s.session.state ∧ t.notices = q ∧ refused)
                ∧ (∀ r, s.session.record = some r → s.session.held = [.dockLoss] →
                  t.session.state = emptied ∧ t.notices = loss r.delivered ∧ refused)
                ∧ (∀ r, s.session.record = some r →
                  s.session.held = [.endCommand, .dockLoss] ∨ s.session.held = [.dockLoss, .endCommand] →
                  t.session.state = emptied ∧ t.notices = loss r.delivered ∧ refused)))
      ∧ t =
        { s with
          turn :=
            { s.turn with
              order := t.turn.order, given := t.turn.given, ownTurn := t.turn.ownTurn,
              deciding := false }
          session :=
            { s.session with
              state := t.session.state, overdrawRun := t.session.overdrawRun, held := [] }
          seq := { s.seq with phase := t.seq.phase, openMode := t.seq.openMode }
          due := { s.due with overdraw := t.due.overdraw, reportLost := t.due.reportLost }
          port :=
            { s.port with
              waiting := t.port.waiting, response := t.port.response, readPos := t.port.readPos }
          notices := t.notices
          free := t.free }

/-- R143 to R146, R149, R147: what a switch window does in each phase: PRE on in TURN_TAKEN (or the close
cancelled where the open mode is FORCED), MAIN on after P rounds with PRE agreed, PRE off in PRE_RELEASE, and
the opening where the open mode and the figures allow it; nothing otherwise. A SESSION notice with the cause
OPENED is raised only where contactors open takes the session out of STOPPING. -/
def Obligations.SwitchWindowMakesTheDriveChangesDue : Prop :=
  ∀ s : State, s.resetHeld = false → s.due.switchWindow = true →
    let opens := (s.seq.phase = .precharging ∨ s.seq.phase = .mainClosing ∨ s.seq.phase = .preRelease
        ∨ s.seq.phase = .on ∨ s.seq.phase = .faulted)
      ∧ (s.seq.preDrive = true ∨ s.seq.mainDrive = true) ∧ s.applyUnit.applied = 0
      ∧ (s.seq.openMode = .forced
        ∨ (s.seq.openMode = .normal
          ∧ ((s.session.lastMeasured ≤ s.cfg.openThreshold ∧ s.session.reportAge < 4)
            ∨ s.seq.openTimeout = 50)))
    let after : Bool → Bool → Confirm := fun on closed => if closed = on then .agreed else .awaiting 0
    let rest : SessionState := if s.docked then .released else .vacant
    ∃ t, exec .switchWindow s = .next t
      ∧ (s.seq.phase = .turnTaken → s.seq.openMode ≠ .forced →
          t.seq = { s.seq with
            preDrive := true, preConfirm := after true s.qual.preFb.level, phase := .precharging,
            prechargeCount := 0, switched := true, switchedFresh := true }
            ∧ t.session = s.session ∧ t.notices = s.notices)
      ∧ (s.seq.phase = .turnTaken → s.seq.openMode = .forced →
          t.seq = { s.seq with phase := .idle, openMode := .none }
            ∧ (s.session.state = .stopping →
              t.session.state = rest ∧ t.notices = s.notices.push (s.sessionNotice rest .opened))
            ∧ (s.session.state ≠ .stopping →
              t.session.state = s.session.state ∧ t.notices = s.notices))
      ∧ (s.seq.phase = .precharging → s.seq.openMode = .none →
          t.seq =
              (if s.cfg.prechargeRounds ≤ s.seq.prechargeCount ∧ s.seq.preConfirm = .agreed then
                { s.seq with
                  mainDrive := true, mainConfirm := after true s.qual.mainFb.level,
                  phase := .mainClosing }
              else s.seq)
            ∧ t.session = s.session ∧ t.notices = s.notices)
      ∧ (s.seq.phase = .preRelease → s.seq.openMode = .none →
          t.seq = { s.seq with
            preDrive := false, preConfirm := after false s.qual.preFb.level, phase := .on }
            ∧ t.session = s.session ∧ t.notices = s.notices)
      ∧ (opens →
          t.seq.preDrive = false ∧ t.seq.mainDrive = false
            ∧ (s.seq.preDrive = true → t.seq.preConfirm = after false s.qual.preFb.level)
            ∧ (s.seq.mainDrive = true → t.seq.mainConfirm = after false s.qual.mainFb.level)
            ∧ (s.seq.preDrive = false → t.seq.preConfirm = s.seq.preConfirm)
            ∧ (s.seq.mainDrive = false → t.seq.mainConfirm = s.seq.mainConfirm)
            ∧ (s.seq.phase = .faulted →
              t.seq.phase = .faulted ∧ t.seq.openMode = s.seq.openMode ∧ t.session = s.session
                ∧ t.notices = s.notices)
            ∧ (s.seq.phase ≠ .faulted →
              ¬(t.seq.preConfirm = .agreed ∧ t.seq.mainConfirm = .agreed) →
              t.seq.phase = .opening ∧ t.seq.openMode = s.seq.openMode ∧ t.session = s.session
                ∧ t.notices = s.notices)
            ∧ (s.seq.phase ≠ .faulted → t.seq.preConfirm = .agreed → t.seq.mainConfirm = .agreed →
              t.seq.phase = .idle ∧ t.seq.openMode = .none
                ∧ (s.session.state = .stopping →
                  t.session.state = rest ∧ t.notices = s.notices.push (s.sessionNotice rest .opened))
                ∧ (s.session.state ≠ .stopping →
                  t.session.state = s.session.state ∧ t.notices = s.notices)))
      ∧ (¬opens → s.seq.phase ≠ .turnTaken →
          (s.seq.openMode = .none → s.seq.phase ≠ .precharging ∧ s.seq.phase ≠ .preRelease) →
          t = { s with due := { s.due with switchWindow := false } })
      ∧ t =
        { s with
          due :=
            { s.due with
              switchWindow := false, overdraw := t.due.overdraw, reportLost := t.due.reportLost }
          seq :=
            { s.seq with
              preDrive := t.seq.preDrive, mainDrive := t.seq.mainDrive, preConfirm := t.seq.preConfirm,
              mainConfirm := t.seq.mainConfirm, phase := t.seq.phase,
              prechargeCount := t.seq.prechargeCount, openMode := t.seq.openMode,
              switched := t.seq.switched, switchedFresh := t.seq.switchedFresh }
          session :=
            { s.session with state := t.session.state, overdrawRun := t.session.overdrawRun }
          notices := t.notices }

/-- R141, R142, R138, R150, R163, R164: at the end of a confirm window each contactor whose count has reached 5
becomes FAILED with its CONTACTOR_FAULT, PRE's first; the first of them takes a session that is not in FAULT
there with its SESSION notice; the sequencer is in FAULTED, with the drives as they were and the open mode
FORCED. An outstanding turn decision is barred. That an OVERDRAW or a REPORT_LOST due at the same boundary
lapses is the model's reading (log entry 26, DEDUCED), and so are that both contactors' faults fall in one step,
and that PRE's fault comes first, then the SESSION notice, then MAIN's fault (log entries 31 and 20, DEDUCED).
-/
def Obligations.ConfirmWindowEndsInAContactorFault : Prop :=
  ∀ s : State, s.resetHeld = false →
    (∃ n, 5 ≤ n ∧ (s.seq.preConfirm = .awaiting n ∨ s.seq.mainConfirm = .awaiting n)) →
    let pre := s.notice .contactorFault none (some (if s.seq.preDrive then 1 else 2))
    let main := s.notice .contactorFault none (some (if s.seq.mainDrive then 5 else 6))
    let toFault : NoticeQueue → NoticeQueue := fun q =>
      if s.session.state = .fault then q else q.push (s.sessionNotice .fault .contactorFault)
    ∃ t, exec .confirmWindowExpired s = .next t
      ∧ (∀ n, s.seq.preConfirm = .awaiting n → 5 ≤ n → t.seq.preConfirm = .failed)
      ∧ (∀ n, s.seq.mainConfirm = .awaiting n → 5 ≤ n → t.seq.mainConfirm = .failed)
      ∧ ((∀ n, s.seq.preConfirm = .awaiting n → n < 5) → t.seq.preConfirm = s.seq.preConfirm)
      ∧ ((∀ n, s.seq.mainConfirm = .awaiting n → n < 5) → t.seq.mainConfirm = s.seq.mainConfirm)
      ∧ t.seq.phase = .faulted ∧ t.seq.openMode = .forced ∧ t.session.state = .fault
      ∧ (∀ n, s.seq.preConfirm = .awaiting n → 5 ≤ n →
          (∀ m, s.seq.mainConfirm = .awaiting m → m < 5) →
          t.notices = toFault (s.notices.push pre))
      ∧ (∀ n, s.seq.mainConfirm = .awaiting n → 5 ≤ n →
          (∀ m, s.seq.preConfirm = .awaiting m → m < 5) →
          t.notices = toFault (s.notices.push main))
      ∧ (∀ n m, s.seq.preConfirm = .awaiting n → 5 ≤ n → s.seq.mainConfirm = .awaiting m → 5 ≤ m →
          t.notices = (toFault (s.notices.push pre)).push main)
      ∧ t =
        { s with
          seq :=
            { s.seq with
              preConfirm := t.seq.preConfirm, mainConfirm := t.seq.mainConfirm, phase := .faulted,
              openMode := .forced }
          session :=
            { s.session with
              state := .fault, overdrawRun := 0
              held := if s.session.state = .fault then s.session.held else [] }
          turn := { s.turn with barred := s.turn.barred || s.turn.deciding }
          due := { s.due with overdraw := none, reportLost := none }
          notices := t.notices }

/-! ### The round boundary -/

/-- R23, R24, R30, R34, R35, R15, R141, R145, R148, R133: the boundary advances the round counter and the tick
count, moves the next round by the reference's offset where that lies above 2 us and up to 40 us, discards the
reference, sets the echo-check result to NOT_SENT, and advances the sequencer's counts. In REALIGN it opens
the realignment gap where a target is fixed, and otherwise counts the slot period toward the silence. -/
def Obligations.RoundBoundaryAlignsAndCounts : Prop :=
  ∀ s : State, s.resetHeld = false → s.canRoundBoundary = true →
    ∃ t, exec .roundBoundary s = .next t
      ∧ t.timer.roundCounter = s.timer.roundCounter + 1
      ∧ (s.timer.tickCount < 99 →
          t.timer.tickCount = s.timer.tickCount + 1 ∧ t.due.tick = false)
      ∧ (99 ≤ s.timer.tickCount → t.timer.tickCount = 0 ∧ t.due.tick = true)
      ∧ (∀ r, s.timer.reference = some r → s.timer.mode = .running → 16 < |r.offset| →
          |r.offset| ≤ 320 → t.timer.roundStart = s.timer.nextPeriod + r.offset)
      ∧ (s.timer.mode ≠ .running
            ∨ (∀ r, s.timer.reference = some r → |r.offset| ≤ 16 ∨ 320 < |r.offset|) →
          t.timer.roundStart = s.timer.nextPeriod)
      ∧ t.timer.nextPeriod = t.timer.roundStart ∧ t.timer.lastBoundary = some t.timer.roundStart
      ∧ t.timer.slot = none ∧ t.timer.reference = none
      ∧ (t.timer.inGap = true ↔ s.timer.mode = .realign ∧ s.timer.target ≠ none)
      ∧ (s.standing.state ≠ .listen →
          t.timer.mode = s.timer.mode ∧ t.timer.target = s.timer.target
            ∧ t.timer.silence =
              (if s.timer.mode = .realign ∧ s.timer.target = none then min 80 (s.timer.silence + 1)
              else s.timer.silence)
            ∧ t.turn.barred = s.turn.barred)
      ∧ t.line = { s.line with echo := .notSent }
      ∧ t.seq =
        { s.seq with
          preConfirm :=
            (match s.seq.preConfirm with
              | .awaiting n => .awaiting (min 5 (n + 1))
              | .agreed => .agreed
              | .failed => .failed)
          mainConfirm :=
            (match s.seq.mainConfirm with
              | .awaiting n => .awaiting (min 5 (n + 1))
              | .agreed => .agreed
              | .failed => .failed)
          prechargeCount :=
            if s.seq.phase = .precharging then min 50 (s.seq.prechargeCount + 1)
            else s.seq.prechargeCount
          openTimeout :=
            if s.applyUnit.applied = 0 then min 50 (s.seq.openTimeout + 1) else s.seq.openTimeout
          switched := s.seq.switched && s.seq.switchedFresh
          switchedFresh := false
          openMode := t.seq.openMode }
      ∧ t =
        { s with
          timer :=
            { s.timer with
              mode := t.timer.mode, slot := none, nextPeriod := t.timer.nextPeriod,
              roundStart := t.timer.roundStart, lastBoundary := t.timer.lastBoundary,
              roundCounter := s.timer.roundCounter + 1, tickCount := t.timer.tickCount,
              reference := none, misaligned := t.timer.misaligned, silence := t.timer.silence,
              target := t.timer.target, inGap := t.timer.inGap }
          line := t.line
          standing := t.standing
          session := t.session
          turn := { s.turn with intentAge := t.turn.intentAge, barred := t.turn.barred }
          seq := t.seq
          due :=
            { s.due with
              tick := t.due.tick, resync := t.due.resync, overdraw := t.due.overdraw,
              reportLost := t.due.reportLost }
          notices := t.notices
          free := s.free + 1 }

/-- R30, R31, R41, R43, R46, R50, R51, R138, R147, R162, R165, R166: the standing at a boundary: a skipped round
takes one off the back-off remaining; ACQUIRE in a running round goes to LISTEN; LISTEN goes to CONFLICT on the
occupancy marker, to RESYNC on two misaligned rounds, and to ACTIVE otherwise; two misaligned rounds make a
resynchronisation due in a transmitting standing. The conflict that ends LISTEN acts on the session by its state
and on the open mode, bars a turn decision, and lets the session's counts advance as at any boundary, in either
order (log entry 8, DESIGN CHOICE). That notices of a boundary are stamped with the round that begins there, and
that a stop for overdraw or a lost report lapses with the conflict, are the model's readings (log entries 25 and
26, DEDUCED); that the conflict and its SESSION notice come before the CONTACTOR_FAULT of a confirm count that
reaches 5 at the same boundary is its choice (log entry 40, DESIGN CHOICE). In REALIGN only the back-off
advances. -/
def Obligations.RoundBoundaryMovesTheStanding : Prop :=
  (∀ s : State, s.resetHeld = false → s.canRoundBoundary = true → s.timer.mode = .running →
    let misaligned := match s.timer.reference with
      | some r => if 320 < |r.offset| then min 255 (s.timer.misaligned + 1) else 0
      | none => 0
    let backoff := if s.standing.skipped then s.standing.backoff - 1 else s.standing.backoff
    let conflict : Identity → Notice := fun id =>
      { kind := .conflict, stamp := s.timer.roundCounter + 1, pad := s.standing.pad, value := some id.toNat }
    let changed : SessionState → Cause → Notice := fun st cause =>
      { kind := .session, stamp := s.timer.roundCounter + 1, pad := none,
        value := some (256 * sessionCode st + causeCode cause) }
    let age := min 255 (s.session.reportAge + 1)
    let integrates := (s.session.state = .precharge ∨ s.session.state = .connected
      ∨ s.session.state = .stopping) ∧ age < 4
    ∃ t, exec .roundBoundary s = .next t
      ∧ (s.standing.state = .acquire →
          t.standing =
              { s.standing with state := .listen, occupant := none, backoff := backoff, skipped := false }
            ∧ t.timer.mode = .running ∧ t.timer.misaligned = misaligned ∧ t.due.resync = s.due.resync)
      ∧ (∀ id, s.standing.state = .listen → s.standing.occupant = some id →
          t.standing =
              { s.standing with
                state := .conflict, failures := 0, backoff := 0, goodRun := 0, occupant := none,
                skipped := false }
            ∧ t.timer.mode = .running ∧ t.timer.misaligned = misaligned ∧ t.due.resync = s.due.resync
            ∧ (s.notices.queue.length < 15 → conflict id ∈ t.notices.queue)
            ∧ t.session.state =
              (match s.session.state with
                | .intent => .released
                | .precharge => .stopping
                | .connected => .stopping
                | .vacant => .vacant
                | .docked => .docked
                | .stopping => .stopping
                | .released => .released
                | .fault => .fault)
            ∧ (s.seq.phase ≠ .idle → t.seq.openMode = .forced)
            ∧ (s.seq.phase = .idle → s.seq.preDrive = false → s.seq.mainDrive = false →
              t.seq.openMode = s.seq.openMode)
            ∧ t.turn.barred = (s.turn.barred || s.turn.deciding)
            ∧ (t.turn.intentAge = s.turn.intentAge
              ∨ (s.session.state = .intent ∧ s.turn.ownTurn = false
                ∧ t.turn.intentAge = min 255 (s.turn.intentAge + 1)))
            ∧ t.session.reportAge = age ∧ t.session.overdrawRun = 0 ∧ t.session.held = s.session.held
            ∧ t.due.overdraw = none ∧ t.due.reportLost = none
            ∧ (¬integrates → t.session.record = s.session.record)
            ∧ (∀ r, integrates → s.session.record = some r →
              ∃ (n : Nat) (r' : Record), t.session.record = some r'
                ∧ r.accumulator + s.session.lastMeasured = 36000 * n + r'.accumulator
                ∧ r'.accumulator < 36000
                ∧ r' = { r with
                  accumulator := r'.accumulator, energyNeeded := r.energyNeeded - n,
                  delivered := min 65535 (r.delivered + n) })
            ∧ (s.session.state = .intent →
              t.notices = (s.notices.push (conflict id)).push (changed .released .conflict))
            ∧ (s.session.state = .precharge →
              t.notices = (s.notices.push (conflict id)).push (changed .stopping .conflict))
            ∧ (s.session.state = .connected →
              t.notices = (s.notices.push (conflict id)).push (changed .stopping .conflict)
                ∨ ((∃ r', t.session.record = some r' ∧ r'.energyNeeded = 0)
                  ∧ t.notices = (s.notices.push (changed .stopping .complete)).push (conflict id)))
            ∧ (s.session.state ≠ .intent → s.session.state ≠ .precharge → s.session.state ≠ .connected →
              t.notices = s.notices.push (conflict id)))
      ∧ (s.standing.state = .listen → s.standing.occupant = none → 2 ≤ misaligned →
          t.standing =
              { s.standing with
                state := .resync, failures := 0, backoff := 0, goodRun := 0, occupant := none,
                skipped := false }
            ∧ t.timer.mode = .realign ∧ t.timer.misaligned = 0 ∧ t.timer.target = none
            ∧ t.timer.silence = 0 ∧ t.due.resync = s.due.resync)
      ∧ (s.standing.state = .listen → s.standing.occupant = none → misaligned < 2 →
          t.standing =
              { s.standing with
                state := .active, failures := 0, backoff := 0, goodRun := 0, occupant := none,
                skipped := false }
            ∧ t.timer.mode = .running ∧ t.timer.misaligned = misaligned ∧ t.due.resync = s.due.resync)
      ∧ (s.standing.state ≠ .listen → s.standing.state ≠ .acquire →
          t.standing = { s.standing with backoff := backoff, skipped := false }
            ∧ t.timer.mode = .running ∧ t.timer.misaligned = misaligned
            ∧ (t.due.resync = true ↔
              s.due.resync = true ∨ (s.standing.state.transmitting = true ∧ 2 ≤ misaligned))))
    ∧ ∀ s : State, s.resetHeld = false → s.canRoundBoundary = true → s.timer.mode ≠ .running →
      s.standing.state ≠ .listen →
      ∃ t, exec .roundBoundary s = .next t
        ∧ t.standing =
          { s.standing with
            backoff := if s.standing.skipped then s.standing.backoff - 1 else s.standing.backoff,
            skipped := false }
        ∧ t.timer.mode = s.timer.mode ∧ t.timer.misaligned = s.timer.misaligned
        ∧ t.due.resync = s.due.resync

/-- R134, R164, R165, R166, R168, R169: the session at a boundary that brings no conflict: the intent age, the
report age, the energy, the overdraw run, and the first of the three conditions that stop a CONNECTED session;
only COMPLETE raises its notice and asks for an opening at once. A LISTEN that ends in RESYNC raises its notice
too, in either order (log entry 8, DESIGN CHOICE). That notices of a boundary are stamped with the round that
begins there is the model's reading (log entry 25, DEDUCED), and that COMPLETE is taken before a contactor fault
of a confirm count that reaches 5 at the same boundary is its choice (log entry 40, DESIGN CHOICE). -/
def Obligations.RoundBoundaryIntegratesTheSession : Prop :=
  ∀ s : State, s.resetHeld = false → s.canRoundBoundary = true →
    s.standing.state ≠ .listen ∨ s.standing.occupant = none →
    let misaligned :=
      if s.timer.mode = .running then
        (match s.timer.reference with
          | some r => if 320 < |r.offset| then min 255 (s.timer.misaligned + 1) else 0
          | none => 0)
      else s.timer.misaligned
    let resyncs : Bool := s.standing.state == .listen && decide (2 ≤ misaligned)
    let resync : Notice :=
      { kind := .resync, stamp := s.timer.roundCounter + 1, pad := s.standing.pad, value := none }
    let complete : Notice :=
      { kind := .session, stamp := s.timer.roundCounter + 1, pad := none,
        value := some (256 * sessionCode .stopping + causeCode .complete) }
    let quiet := if resyncs then s.notices.push resync else s.notices
    let age := min 255 (s.session.reportAge + 1)
    let integrates := (s.session.state = .precharge ∨ s.session.state = .connected
      ∨ s.session.state = .stopping) ∧ age < 4
    let run := if s.session.state = .connected ∧
        s.session.lastMeasured > s.applyUnit.applied + 5 + s.applyUnit.applied / 16 then
      min 8 (s.session.overdrawRun + 1) else 0
    ∃ t, exec .roundBoundary s = .next t
      ∧ t.session.reportAge = age ∧ t.turn.barred = s.turn.barred
      ∧ t.turn.intentAge =
        (if s.session.state = .intent ∧ s.turn.ownTurn = false then min 255 (s.turn.intentAge + 1)
        else s.turn.intentAge)
      ∧ (¬integrates → t.session.record = s.session.record)
      ∧ (∀ r, integrates → s.session.record = some r →
          ∃ (n : Nat) (r' : Record), t.session.record = some r'
            ∧ r.accumulator + s.session.lastMeasured = 36000 * n + r'.accumulator
            ∧ r'.accumulator < 36000 ∧ r'.energyNeeded = r.energyNeeded - n
            ∧ r'.delivered = min 65535 (r.delivered + n)
            ∧ r' = { r with
              accumulator := r'.accumulator, energyNeeded := r'.energyNeeded,
              delivered := r'.delivered })
      ∧ (s.session.state = .connected → 8 ≤ run →
          t.due.overdraw = some s.session.lastMeasured ∧ t.due.reportLost = none
            ∧ t.session.state = .connected ∧ t.session.overdrawRun = run ∧ t.notices = quiet
            ∧ t.seq.openMode = s.seq.openMode)
      ∧ (s.session.state = .connected → run < 8 → 50 ≤ age →
          t.due.reportLost = some age ∧ t.due.overdraw = none ∧ t.session.state = .connected
            ∧ t.session.overdrawRun = run ∧ t.notices = quiet ∧ t.seq.openMode = s.seq.openMode)
      ∧ (∀ r', s.session.state = .connected → run < 8 → age < 50 → t.session.record = some r' →
          r'.energyNeeded = 0 →
          t.session.state = .stopping ∧ t.session.overdrawRun = 0
            ∧ t.due.overdraw = none ∧ t.due.reportLost = none
            ∧ (s.seq.openMode ≠ .none ∨ (s.seq.phase = .idle ∧ s.seq.preDrive = false
                ∧ s.seq.mainDrive = false) → t.seq.openMode = s.seq.openMode)
            ∧ (s.seq.phase ≠ .idle → s.seq.openMode = .none → t.seq.openMode = .normal)
            ∧ (resyncs = false → t.notices = s.notices.push complete)
            ∧ (resyncs = true → t.notices = (s.notices.push resync).push complete
              ∨ t.notices = (s.notices.push complete).push resync))
      ∧ (∀ r', s.session.state = .connected → run < 8 → age < 50 → t.session.record = some r' →
          r'.energyNeeded ≠ 0 →
          t.session.state = .connected ∧ t.session.overdrawRun = run ∧ t.due.overdraw = none
            ∧ t.due.reportLost = none ∧ t.notices = quiet ∧ t.seq.openMode = s.seq.openMode)
      ∧ (s.session.state ≠ .connected →
          t.session.state = s.session.state ∧ t.session.overdrawRun = 0 ∧ t.notices = quiet
            ∧ t.due.overdraw = none ∧ t.due.reportLost = none ∧ t.seq.openMode = s.seq.openMode)
      ∧ t.session =
        { s.session with
          state := t.session.state, record := t.session.record, reportAge := age,
          overdrawRun := t.session.overdrawRun }

/-- R167, R169, R163, R164, R147, R150, R50, R34: what a round boundary makes due. The one-second tick takes
1 off the departure remaining, but not below 0. OVERDRAW raises its notice with the measured power and takes
the session to FAULT, the sequencer to FAULTED with the open mode FORCED; REPORT_LOST raises its notice with
the report age and takes the session to STOPPING with the open mode NORMAL. A resynchronisation takes a
transmitting standing to RESYNC with its notice and the timer to REALIGN. -/
def Obligations.RoundBoundaryFollowUpsTakeEffect : Prop :=
  (∀ s : State, s.resetHeld = false → s.due.tick = true →
       ∃ t, exec .oneSecondTick s = .next t
         ∧ (∀ r d, s.session.record = some r → r.departure = some d →
             t.session.record = some { r with departure := some (d - 1) })
         ∧ (∀ r, s.session.record = some r → r.departure = none → t.session.record = some r)
         ∧ (s.session.record = none → t.session.record = none)
         ∧ t =
           { s with
             due := { s.due with tick := false }
             session := { s.session with record := t.session.record } })
    ∧ ((∀ (kw : Nat) (s : State), s.resetHeld = false → s.due.overdraw = some kw →
           s.session.state = .connected →
           exec .overdraw s = .next { s with
             notices :=
               (s.notices.push (s.notice .overdraw none (some kw))).push (s.sessionNotice .fault .overdraw)
             session := { s.session with state := .fault, overdrawRun := 0, held := [] }
             seq := { s.seq with phase := .faulted, openMode := .forced }
             due := { s.due with overdraw := none, reportLost := none } })
         ∧ ∀ (age : Nat) (s : State), s.resetHeld = false → s.due.reportLost = some age →
           s.session.state = .connected →
           ∃ t, exec .reportLost s = .next t
             ∧ (s.seq.openMode = .none → s.seq.phase ≠ .idle → t.seq.openMode = .normal)
             ∧ (s.seq.openMode ≠ .none → t.seq.openMode = s.seq.openMode)
             ∧ t =
               { s with
                 notices :=
                   (s.notices.push (s.notice .reportLost none (some age))).push
                     (s.sessionNotice .stopping .reportLost)
                 session := { s.session with state := .stopping, overdrawRun := 0 }
                 seq := { s.seq with openMode := t.seq.openMode }
                 due := { s.due with overdraw := none, reportLost := none } })
    ∧ (∀ s : State, s.resetHeld = false → s.due.resync = true →
         s.standing.state = .active ∨ s.standing.state = .backoff ∨ s.standing.state = .isolated →
         exec .misalignmentResync s = .next { s with
           due := { s.due with resync := false }
           standing :=
             { s.standing with
               state := .resync, failures := 0, backoff := 0, goodRun := 0, occupant := none }
           timer := { s.timer with mode := .realign, misaligned := 0, silence := 0, target := none }
           notices := s.notices.push (s.notice .resync s.standing.pad none) })

/-- R32, R34, R35, R41, R52, R15: a round starts in RUNNING after 80 slot periods of silence in SEARCH, at
the target of a realignment, or, after 80 slot periods of silence in REALIGN, on the old clock; the standing
goes to LISTEN, and no counter advances. -/
def Obligations.RoundsStartBySilenceTargetAndFallback : Prop :=
  let started : State → Int → Option Int → Standing → State := fun s instant boundary waiting =>
    { s with
      timer :=
        { s.timer with
          mode := .running, slot := none, nextPeriod := instant, roundStart := instant,
          reference := none, misaligned := 0, silence := 0, target := none, inGap := false,
          lastBoundary := boundary }
      line := { s.line with echo := .notSent }
      standing :=
        if s.standing.state = waiting then { s.standing with state := .listen, occupant := none }
        else s.standing }
  (∀ s : State, s.resetHeld = false → s.timer.mode = .search →
      s.timer.searchStart + 160000 ≤ s.timer.nextPeriod →
      exec .searchSilenceExpired s = .next (started s (s.timer.searchStart + 160000) none .acquire))
    ∧ (∀ (target : Int) (s : State), s.resetHeld = false → s.timer.mode = .realign →
        s.timer.inGap = true → s.timer.target = some target → target ≤ s.timer.nextPeriod →
        exec .realignTargetReached s = .next (started s target s.timer.lastBoundary .resync))
    ∧ ∀ s : State, s.resetHeld = false → s.timer.mode = .realign → s.timer.inGap = false →
      s.timer.slot = none → s.timer.target = none → 80 ≤ s.timer.silence →
      exec .realignSilenceFallback s =
        .next (started s s.timer.roundStart s.timer.lastBoundary .resync)

/-! ### The charger port -/

/-- R174 to R176: the assertion of CP_SEL opens a transaction in COMMAND with no byte counted, and CP_DOUT is
driven from then on with the first bit of 00H; its deassertion closes it, drops a frame cut short, and loses the
response, that of a waiting command too, and CP_DOUT is high-impedance from then on. -/
def Obligations.TransactionsOpenAndClose : Prop :=
  (∀ s : State, s.resetHeld = false → s.port.txn = .closed → s.port.ready = none →
      ∃ t, exec .transactionOpen s = .next t
        ∧ t.outputs.cpDout = some false ∧ t.outputs.cpDoutBits = []
        ∧ t =
          { s with
            inputs := { s.inputs with cpSel := false }
            port :=
              { s.port with
                txn := .command, assembly := [], response := none, readPos := 0, dout := none } })
    ∧ ∀ s : State, s.resetHeld = false → s.port.txn ≠ .closed →
      ∃ t, exec .transactionClose s = .next t
        ∧ t.outputs.cpDout = none ∧ t.outputs.cpDoutBits = []
        ∧ (s.port.waiting = none → t.port.waiting = none)
        ∧ (∀ w, s.port.waiting = some w → t.port.waiting = some { w with responseLost := true })
        ∧ t =
          { s with
            inputs := { s.inputs with cpSel := true }
            port :=
              { s.port with
                txn := .closed, assembly := [], response := none, readPos := 0, dout := none,
                waiting := t.port.waiting } }

/-- R174 to R176, Table 10-1: a byte clocked in COMMAND joins the frame and sends 00H, and a complete frame
moves the port to EXECUTE; EXECUTE sends 00H until the response is ready and then its first byte; RESPONSE sends
the next byte and enters SPENT after the last; SPENT sends FFH. CP_DOUT sends the byte's bits most significant
first; its first bit is driven before the first clock, and the first bit of the next byte from the falling edge
that ends it. That the first bit of a code byte is driven from the instant the response is ready is the model's
choice (log entry 30, DESIGN CHOICE). -/
def Obligations.ByteClockedFollowsTheTransactionState : Prop :=
  ∀ (b : Byte) (s : State), s.resetHeld = false → s.port.txn ≠ .closed →
    ∃ t, exec (.byteClocked b) s = .next t
      ∧ (∀ sent, t.port.dout = some sent →
          t.outputs.cpDoutBits.length = 8
            ∧ ∀ i < 8, t.outputs.cpDoutBits[i]? = some (sent.getLsbD (7 - i)))
      ∧ s.outputs.cpDout = t.outputs.cpDoutBits.head? ∧ t.port.dout.isSome = true
      ∧ (s.port.txn = .spent ∨ t.port.txn = .spent → t.outputs.cpDout = some true)
      ∧ (t.port.txn = .command ∨ (t.port.txn = .execute ∧ t.port.response = none) →
          t.outputs.cpDout = some false)
      ∧ (∀ r next, t.port.txn = .response → t.port.response = some r → r[t.port.readPos]? = some next →
          t.outputs.cpDout = some (next.getLsbD 7))
      ∧ (∀ (code : Byte) (rest : List Byte) (p : Port), p.txn = .execute → p.response = some (code :: rest) →
          p.doutLevel = some (code.getLsbD 7))
      ∧ (s.port.txn = .command →
          let frame := s.port.assembly ++ [b]
          t.port.dout = some 0
            ∧ ((∃ code len ps, frame = code :: len :: ps ∧ ps.length = len.toNat) →
              t.port.txn = .execute ∧ t.port.ready = some frame ∧ t.port.assembly = [])
            ∧ ((∀ code len ps, frame = code :: len :: ps → ps.length ≠ len.toNat) →
              t.port.txn = .command ∧ t.port.ready = s.port.ready ∧ t.port.assembly = frame))
      ∧ (s.port.txn = .execute → s.port.response = none →
          t.port = { s.port with dout := some 0 })
      ∧ (∀ first second rest, s.port.txn = .execute →
          s.port.response = some (first :: second :: rest) →
          t.port = { s.port with txn := .response, readPos := 1, dout := some first })
      ∧ (∀ r, s.port.txn = .response → s.port.response = some r → s.port.readPos < r.length →
          t.port = { s.port with
            txn := if s.port.readPos + 1 = r.length then .spent else .response
            readPos := s.port.readPos + 1
            dout := r[s.port.readPos]? })
      ∧ (s.port.txn = .spent → t.port = { s.port with dout := some 0xFF })
      ∧ t =
        { s with
          inputs := { s.inputs with cpDin := t.inputs.cpDin, cpClk := t.inputs.cpClk }
          port :=
            { s.port with
              txn := t.port.txn, assembly := t.port.assembly, ready := t.port.ready,
              readPos := t.port.readPos, dout := t.port.dout } }

/-- R38, R176, R177, R178: a frame with an unknown code or of a wrong length is refused with REFUSED_FORMAT; one
completed while the port is busy, and one that needs SETUP before SETUP, with REFUSED_STATE; SETUP after
SETUP with REFUSED_LOCKED, its branch above 5 with REFUSED_FORMAT, its straps above 35 with REFUSED_STATE. A
refused frame has no effect but its response. That the port counts as busy while the view part of a PORT RESET
waits is the model's choice (log entry 42, DESIGN CHOICE). -/
def Obligations.FramesAreCheckedBeforeTheyAreTaken : Prop :=
  ((∀ (code : Byte) (ps : List Byte) (s : State), s.taking code ps → code ∉ commandCodes →
         exec .unknownCommand s = .next { s with port := s.port.answering [0xC3, 0] })
       ∧ (∀ (code : Byte) (rest : List Byte) (w : PortWait) (c : Instr) (straps : BitVec 6)
           (instant : Nat) (s : State),
           s.resetHeld = false → s.port.ready = some (code :: rest) → s.port.waiting = some w →
           (c, code) ∈ [(.setup straps instant, 0x01), (.report, 0x02), (.dock, 0x03),
               (.updateVehicle, 0x04), (.endCharge, 0x05), (.clearFault, 0x06), (.readStatus, 0x10),
               (.readGrant, 0x11), (.readView, 0x12), (.readNotice, 0x13), (.releaseHeld, 0x14),
               (.identify straps, 0x15), (.portReset instant, 0x1F)]
             ∨ (c = .unknownCommand ∧ code ∉ commandCodes) →
           exec c s = .next { s with port := s.port.answering [0xC1, 0] })
       ∧ (∀ (ps : List Byte) (n : Nat) (code : Byte) (c : Instr) (straps : BitVec 6) (instant : Nat)
           (s : State), s.taking code ps →
           (c, code, n) ∈ [(.report, 0x02, 2), (.dock, 0x03, 14), (.updateVehicle, 0x04, 10),
             (.endCharge, 0x05, 0), (.clearFault, 0x06, 0), (.readStatus, 0x10, 0),
             (.readGrant, 0x11, 0), (.readView, 0x12, 3), (.readNotice, 0x13, 0),
             (.releaseHeld, 0x14, 1 + 2 * param1 ps 0), (.identify straps, 0x15, 0),
             (.portReset instant, 0x1F, 0)] →
           ps.length ≠ n → exec c s = .next { s with port := s.port.answering [0xC3, 0] })
       ∧ ∀ (ps : List Byte) (n : Nat) (code : Byte) (c : Instr) (instant : Nat) (s : State),
         s.taking code ps →
         (c, code, n) ∈ [(.report, 0x02, 2), (.dock, 0x03, 14), (.updateVehicle, 0x04, 10),
           (.endCharge, 0x05, 0), (.clearFault, 0x06, 0), (.readGrant, 0x11, 0), (.readView, 0x12, 3),
           (.releaseHeld, 0x14, 1 + 2 * param1 ps 0), (.portReset instant, 0x1F, 0)] →
         ps.length = n → s.configured = false →
         exec c s = .next { s with port := s.port.answering [0xC1, 0] })
    ∧ (∀ (straps : BitVec 6) (instant : Nat) (ps : List Byte) (s : State), s.taking 0x01 ps →
         (ps.length ≠ 15 → exec (.setup straps instant) s = .next { s with
             port := s.port.answering [0xC3, 0] })
           ∧ (ps.length = 15 → s.configured = true → exec (.setup straps instant) s = .next { s with
             port := s.port.answering [0xC2, 0] })
           ∧ (ps.length = 15 → s.configured = false → 5 < param1 ps 0 →
             exec (.setup straps instant) s = .next { s with port := s.port.answering [0xC3, 0] })
           ∧ (ps.length = 15 → s.configured = false → param1 ps 0 ≤ 5 → 35 < straps.toNat →
             exec (.setup straps instant) s = .next { s with
               inputs := { s.inputs with straps := straps }, port := s.port.answering [0xC1, 0] }))

/-- R32, R38, R39, R141, R142, R157, R164, R178: an accepted SETUP keeps the clamped fields and the pad number,
takes the standing to ACQUIRE and the timer to SEARCH, settles the confirm states with a contactor fault for
each closed feedback, docks a VACANT session, and answers with the configuration in force, after the mask of the
clamped fields where there is one. The faults and the docking come in either order (log entry 9, DESIGN CHOICE);
that PRE's fault comes first, then the SESSION notice, then MAIN's fault is the model's reading (log entry 20,
DEDUCED); that the silence of SEARCH is measured from the SETUP's instant in the slot period, and the next
period start stays where it was, are the model's choices (log entries 23 and 39, DESIGN CHOICE). -/
def Obligations.SetupConfiguresTheStation : Prop :=
  ∀ (straps : BitVec 6) (instant : Nat) (ps : List Byte) (s : State), s.taking 0x01 ps →
    ps.length = 15 → s.configured = false → param1 ps 0 ≤ 5 → straps.toNat ≤ 35 →
    let set : Setup :=
      { branch := param1 ps 0, branchLimit := min 4000 (param2 ps 1),
        feederLimit := min 16000 (param2 ps 3), curtailLimit := min 16000 (param2 ps 5),
        chargerRating := max 50 (min 1000 (param2 ps 7)), rampStep := max 1 (min 50 (param1 ps 9)),
        prechargeRounds := max 5 (min 50 (param1 ps 10)),
        openThreshold := max 1 (min 20 (param1 ps 11)),
        adoptionReserve := max 10 (min 1000 (param2 ps 12)),
        curtailSamples := max 3 (min 15 (param1 ps 14)) }
    let docking :=
      if s.docked = true ∧ s.session.state = .vacant then
        s.notices.push (s.sessionNotice .docked .setup)
      else s.notices
    let fault : Nat → Notice := fun code => s.notice .contactorFault none (some code)
    let toFault : NoticeQueue → NoticeQueue := fun q =>
      if s.session.state = .fault then q else q.push (s.sessionNotice .fault .contactorFault)
    let faults : NoticeQueue → NoticeQueue := fun q =>
      if s.qual.preFb.level = true ∧ s.qual.mainFb.level = true then
        (toFault (q.push (fault 4))).push (fault 8)
      else if s.qual.preFb.level = true then toFault (q.push (fault 4))
      else toFault (q.push (fault 8))
    ∃ (t : State) (mask : Nat), exec (.setup straps instant) s = .next t
      ∧ t.cfg = set
      ∧ t.standing =
        { s.standing with
          state := .acquire, pad := some straps.toNat, failures := 0, backoff := 0, goodRun := 0,
          occupant := none, skipped := false }
      ∧ t.timer =
        { s.timer with
          mode := .search, slot := none, searchStart := s.timer.periodStart + (instant : Int),
          reference := none, misaligned := 0, silence := 0, target := none, inGap := false,
          lastBoundary := none }
      ∧ (s.qual.preFb.level = false → s.qual.mainFb.level = false →
          t.seq = { s.seq with preConfirm := .agreed, mainConfirm := .agreed }
            ∧ t.session.state =
              (if s.docked = true ∧ s.session.state = .vacant then .docked else s.session.state)
            ∧ t.session.held = s.session.held ∧ t.turn = s.turn ∧ t.notices = docking)
      ∧ (s.qual.preFb.level = true ∨ s.qual.mainFb.level = true →
          t.seq.phase = .faulted ∧ t.seq.openMode = .forced ∧ t.session.state = .fault
            ∧ (s.qual.preFb.level = true → t.seq.preConfirm = .failed)
            ∧ (s.qual.preFb.level = false → t.seq.preConfirm = .agreed)
            ∧ (s.qual.mainFb.level = true → t.seq.mainConfirm = .failed)
            ∧ (s.qual.mainFb.level = false → t.seq.mainConfirm = .agreed)
            ∧ (t.notices = faults s.notices ∨ t.notices = faults docking))
      ∧ (mask = 0 ↔ setupOfParams ps = set) ∧ mask < 512
      ∧ (mask.testBit 0 = true ↔ 4000 < param2 ps 1)
      ∧ (mask.testBit 1 = true ↔ 16000 < param2 ps 3)
      ∧ (mask.testBit 2 = true ↔ 16000 < param2 ps 5)
      ∧ (mask.testBit 3 = true ↔ param2 ps 7 < 50 ∨ 1000 < param2 ps 7)
      ∧ (mask.testBit 4 = true ↔ param1 ps 9 < 1 ∨ 50 < param1 ps 9)
      ∧ (mask.testBit 5 = true ↔ param1 ps 10 < 5 ∨ 50 < param1 ps 10)
      ∧ (mask.testBit 6 = true ↔ param1 ps 11 < 1 ∨ 20 < param1 ps 11)
      ∧ (mask.testBit 7 = true ↔ param2 ps 12 < 10 ∨ 1000 < param2 ps 12)
      ∧ (mask.testBit 8 = true ↔ param1 ps 14 < 3 ∨ 15 < param1 ps 14)
      ∧ t.port = s.port.answering
        (if mask = 0 then 0x80 :: 15 :: configBytes set
        else 0x81 :: 17 :: (byte2 mask ++ configBytes set))
      ∧ t =
        { s with
          inputs := { s.inputs with straps := straps }
          cfg := set
          standing := t.standing
          timer := t.timer
          seq :=
            { s.seq with
              preConfirm := t.seq.preConfirm, mainConfirm := t.seq.mainConfirm, phase := t.seq.phase,
              openMode := t.seq.openMode }
          session :=
            { s.session with
              state := t.session.state, overdrawRun := t.session.overdrawRun, held := t.session.held }
          turn := { s.turn with barred := t.turn.barred }
          due := { s.due with overdraw := t.due.overdraw, reportLost := t.due.reportLost }
          notices := t.notices
          port := t.port
          free := s.free + 1 }

/-- R165, R179: a REPORT sets the last measured power, clamped to 1023 kW, and the report age 0, and answers
with the power as set. -/
def Obligations.ReportSetsTheMeasuredPower : Prop :=
  ∀ (high low : Byte) (s : State), s.taking 0x02 [high, low] → s.configured = true →
    let kw := 256 * high.toNat + low.toNat
    exec .report s = .next { s with
      session := { s.session with lastMeasured := min 1023 kw, reportAge := 0 }
      port := s.port.answering
        (if kw ≤ 1023 then [0x80, 2, high, low] else [0x81, 4, 0, 1, 3, 0xFF]) }

/-- R155, R158, R180: a DOCK in DOCKED or RELEASED builds a new record with the carried fields clamped and the
delivered energy at 0, and takes the session to INTENT; in any other state it is refused. The record is answered
in the 17 bytes of Table 11-5, with zeros for an absent field and for an absent record (R192). -/
def Obligations.DockBuildsTheRecord : Prop :=
  (∀ (ps : List Byte) (s : State), s.taking 0x03 ps → ps.length = 14 → s.configured = true →
    let accept := min 1000 (param2 ps 5)
    let record : Record :=
      { vehicle := BitVec.ofNat 32 (param4 ps 1), maxAccept := accept
        floor := if (param1 ps 0).testBit 0 then some (min (param2 ps 7) accept) else none
        energyNeeded := min 9999 (param2 ps 9)
        departure := if (param1 ps 0).testBit 1 then some (param2 ps 11) else none
        vehicleClass :=
          if (param1 ps 0).testBit 2 then some (if param1 ps 13 = 1 then .urgent else .normal)
          else none
        delivered := 0, accumulator := 0 }
    let mask := (if 1000 < param2 ps 5 then 1 else 0)
      + (if (param1 ps 0).testBit 0 ∧ accept < param2 ps 7 then 2 else 0)
      + (if 9999 < param2 ps 9 then 4 else 0)
      + (if (param1 ps 0).testBit 2 ∧ 1 < param1 ps 13 then 8 else 0)
    (s.session.state = .docked ∨ s.session.state = .released →
        exec .dock s = .next { s with
          session := { s.session with state := .intent, record := some record, overdrawRun := 0 }
          turn := { s.turn with intentAge := 0 }
          due := { s.due with overdraw := none, reportLost := none }
          notices := s.notices.push (s.sessionNotice .intent .dockCommand)
          port := s.port.answering
            (if mask = 0 then 0x80 :: 17 :: recordBytes .intent (some record)
            else 0x81 :: 19 :: (byte2 mask ++ recordBytes .intent (some record))) })
      ∧ (s.session.state ≠ .docked → s.session.state ≠ .released →
        exec .dock s = .next { s with port := s.port.answering [0xC1, 0] }))
    ∧ ∀ st : SessionState,
      let byte : Nat → Byte := BitVec.ofNat 8
      recordBytes st none = byte (sessionCode st) :: List.replicate 16 0
        ∧ ∀ r : Record, recordBytes st (some r) =
          [byte (sessionCode st), byte (r.vehicle.toNat / 16777216), byte (r.vehicle.toNat / 65536),
            byte (r.vehicle.toNat / 256), byte r.vehicle.toNat,
            byte ((if r.floor.isSome then 1 else 0) + (if r.departure.isSome then 2 else 0)
              + (if r.vehicleClass.isSome then 4 else 0)),
            byte (r.maxAccept / 256), byte r.maxAccept, byte (r.floor.getD 0 / 256), byte (r.floor.getD 0),
            byte (r.energyNeeded / 256), byte r.energyNeeded, byte (r.departure.getD 0 / 256),
            byte (r.departure.getD 0), (if r.vehicleClass = some .urgent then 1 else 0),
            byte (r.delivered / 256), byte r.delivered]

/-- R156, R180: an UPDATE VEHICLE in INTENT, PRECHARGE or CONNECTED writes the marked fields, then clamps the
floor to the maximum accept as it stands; in any other state it is refused, with a record or without one. -/
def Obligations.UpdateVehicleWritesTheMarkedFields : Prop :=
  (∀ (ps : List Byte) (r : Record) (s : State), s.taking 0x04 ps → ps.length = 10 →
    s.configured = true → s.session.record = some r →
    let marks := param1 ps 0
    let accept := if marks.testBit 0 then min 1000 (param2 ps 1) else r.maxAccept
    let record : Record :=
      { r with
        maxAccept := accept
        floor :=
          if marks.testBit 1 then some (min (param2 ps 3) accept)
          else r.floor.map fun f => min f accept
        energyNeeded := if marks.testBit 2 then min 9999 (param2 ps 5) else r.energyNeeded
        departure := if marks.testBit 3 then some (param2 ps 7) else r.departure
        vehicleClass :=
          if marks.testBit 4 then some (if param1 ps 9 = 1 then .urgent else .normal)
          else r.vehicleClass }
    (s.session.state = .intent ∨ s.session.state = .precharge ∨ s.session.state = .connected →
        ∃ (t : State) (mask : Nat), exec .updateVehicle s = .next t
          ∧ (mask.testBit 0 = true ↔ marks.testBit 0 = true ∧ 1000 < param2 ps 1)
          ∧ (mask.testBit 1 = true ↔
            record.floor ≠ if marks.testBit 1 then some (param2 ps 3) else r.floor)
          ∧ (mask.testBit 2 = true ↔ marks.testBit 2 = true ∧ 9999 < param2 ps 5)
          ∧ (mask.testBit 3 = true ↔ marks.testBit 4 = true ∧ 1 < param1 ps 9)
          ∧ mask < 16
          ∧ t =
            { s with
              session := { s.session with record := some record }
              port := s.port.answering
                (if mask = 0 then 0x80 :: 17 :: recordBytes s.session.state (some record)
                else 0x81 :: 19 :: (byte2 mask ++ recordBytes s.session.state (some record))) })
      ∧ (s.session.state ≠ .intent → s.session.state ≠ .precharge → s.session.state ≠ .connected →
        exec .updateVehicle s = .next { s with port := s.port.answering [0xC1, 0] }))
    ∧ ∀ (ps : List Byte) (s : State), s.taking 0x04 ps → ps.length = 10 → s.configured = true →
      s.session.state ≠ .intent → s.session.state ≠ .precharge → s.session.state ≠ .connected →
      exec .updateVehicle s = .next { s with port := s.port.answering [0xC1, 0] }

/-- R138, R160, R164, R181, R147: END releases a session in INTENT, stops one in PRECHARGE or CONNECTED with the
open mode NORMAL, and is refused in any other state; during a turn decision of which the own station is a
candidate it is held, and its transaction waits. That an END taken at a boundary before the OVERDRAW or
REPORT_LOST that the boundary made due leaves them nothing to stop is the model's reading (log entry 26,
DEDUCED), and so is that END is held whatever state a conflict or a contactor fault has taken the session to
since the compute point (log entry 43, DEDUCED). -/
def Obligations.EndActsBySessionStateOrWaits : Prop :=
  ∀ s : State, s.taking 0x05 [] → s.configured = true →
    (s.turn.deciding = true → s.turn.ownCandidate.isSome = true →
        exec .endCharge s = .next { s with
          session := { s.session with held := s.session.held ++ [.endCommand] }
          port :=
            { s.port with
              ready := none
              waiting := some
                { command := .endCommand, responseLost := decide (s.port.txn ≠ .execute) } } })
      ∧ (s.turn.deciding = false ∨ s.turn.ownCandidate = none →
        (s.session.state = .intent →
            exec .endCharge s = .next { s with
              session := { s.session with state := .released, overdrawRun := 0 }
              due := { s.due with overdraw := none, reportLost := none }
              notices := s.notices.push (s.sessionNotice .released .endCommand)
              port := s.port.answering [0x80, 1, 6] })
          ∧ (s.session.state = .precharge ∨ s.session.state = .connected →
            ∃ t, exec .endCharge s = .next t
              ∧ (s.seq.openMode = .none → s.seq.phase ≠ .idle → t.seq.openMode = .normal)
              ∧ (s.seq.openMode ≠ .none → t.seq.openMode = s.seq.openMode)
              ∧ t =
                { s with
                  session := { s.session with state := .stopping, overdrawRun := 0 }
                  seq := { s.seq with openMode := t.seq.openMode }
                  due := { s.due with overdraw := none, reportLost := none }
                  notices := s.notices.push (s.sessionNotice .stopping .endCommand)
                  port := s.port.answering [0x80, 1, 5] })
          ∧ (s.session.state ≠ .intent → s.session.state ≠ .precharge →
            s.session.state ≠ .connected →
            exec .endCharge s = .next { s with port := s.port.answering [0xC1, 0] }))

/-- R150, R163, R164, R181: CLEAR FAULT in FAULT, with both drives off and both feedbacks open, returns the
sequencer to IDLE and takes the session to RELEASED or VACANT by the dock level; otherwise it is refused. -/
def Obligations.ClearFaultReturnsTheSequencerToIdle : Prop :=
  ∀ s : State, s.taking 0x06 [] → s.configured = true →
    let allowed := s.session.state = .fault ∧ s.seq.preDrive = false ∧ s.seq.mainDrive = false
      ∧ s.qual.preFb.level = false ∧ s.qual.mainFb.level = false
    let rest : SessionState := if s.qual.dock.level then .released else .vacant
    (allowed →
        exec .clearFault s = .next { s with
          seq :=
            { s.seq with
              preConfirm := .agreed, mainConfirm := .agreed, openMode := .none, prechargeCount := 0,
              phase := .idle }
          session := { s.session with state := rest, overdrawRun := 0 }
          due := { s.due with overdraw := none, reportLost := none }
          notices := s.notices.push (s.sessionNotice rest .clearFault)
          port := s.port.answering [0x80, 1, BitVec.ofNat 8 (sessionCode rest)] })
      ∧ (¬allowed → exec .clearFault s = .next { s with port := s.port.answering [0xC1, 0] })

/-- R182, R183, R186, R192, Table 11-5: READ STATUS, READ GRANT and IDENTIFY answer with their figures of this
instant; READ STATUS clears the lost-notice flag. READ STATUS and IDENTIFY need no SETUP; before SETUP READ
STATUS shows every count 0. The codes are those of Table 11-2, the configuration stands in the layout of SETUP's
parameters (Tables 11-3 and 11-5), and a field of more than one byte is sent and read most significant byte
first (R192). -/
def Obligations.ReadsAnswerWithTheFiguresOfTheInstant : Prop :=
  (∀ s : State, s.taking 0x10 [] →
      let shown : Nat → Nat := fun n => if s.configured then n else 0
      exec .readStatus s = .next { s with
        notices := { s.notices with lost := false }
        port := s.port.answering
          ([0x80, 13, BitVec.ofNat 8 (standingCode s.standing.state),
              BitVec.ofNat 8 (sessionCode s.session.state),
              BitVec.ofNat 8 ((if s.port.resetCause = .port then 1 else 0)
                + (if s.limit.inForce then 2 else 0) + (if s.notices.lost then 4 else 0)),
              BitVec.ofNat 8 (shown s.view.liveCount), BitVec.ofNat 8 (shown s.view.staleCount),
              BitVec.ofNat 8 (shown s.view.heldCount), BitVec.ofNat 8 (shown s.view.adoptedCount)]
            ++ byte2 (shown s.line.errors) ++ byte1 s.session.reportAge
            ++ byte2 ((s.session.record.map Record.delivered).getD 0)
            ++ byte1 s.notices.queue.length) })
    ∧ (∀ s : State, s.taking 0x11 [] → s.configured = true →
      exec .readGrant s = .next { s with
        port := s.port.answering
          ([0x80, 19] ++ byte2 s.share.published.stamp.toNat
            ++ byte1 (if s.share.published.ownParticipant then 1 else 0)
            ++ byte2 s.share.published.ownShare ++ byte2 s.share.published.feederBudget
            ++ byte2 s.share.published.ownBranchBudget
            ++ byte1 s.share.published.participantCount ++ byte2 s.share.published.lastLevel
            ++ byte1 s.share.published.fillCount ++ byte2 s.applyUnit.applied
            ++ byte2 s.applyUnit.grant ++ byte2 s.applyUnit.lastCommit) })
    ∧ (∀ (straps : BitVec 6) (s : State), s.taking 0x15 [] →
      exec (.identify straps) s = .next { s with
        inputs := { s.inputs with straps := straps }
        port := s.port.answering
          ([0x80, 24] ++ byte4 s.identity.toNat ++ byte1 straps.toNat
            ++ byte1 (s.standing.pad.getD 255) ++ [0x50, 0x36, 0x03] ++ configBytes s.cfg) })
    ∧ [Standing.unconfigured, .acquire, .listen, .active, .backoff, .isolated, .resync, .conflict].map
        standingCode = [0, 1, 2, 3, 4, 5, 6, 7]
    ∧ [SessionState.vacant, .docked, .intent, .precharge, .connected, .stopping, .released, .fault].map
        sessionCode = [0, 1, 2, 3, 4, 5, 6, 7]
    ∧ (let byte : Nat → Byte := BitVec.ofNat 8;
      (∀ n : Nat, byte1 n = [byte n] ∧ byte2 n = [byte (n / 256), byte n]
          ∧ byte4 n = [byte (n / 16777216), byte (n / 65536), byte (n / 256), byte n])
        ∧ ∀ c : Setup, configBytes c =
          [byte c.branch, byte (c.branchLimit / 256), byte c.branchLimit, byte (c.feederLimit / 256),
            byte c.feederLimit, byte (c.curtailLimit / 256), byte c.curtailLimit, byte (c.chargerRating / 256),
            byte c.chargerRating, byte c.rampStep, byte c.prechargeRounds, byte c.openThreshold,
            byte (c.adoptionReserve / 256), byte c.adoptionReserve, byte c.curtailSamples])
    ∧ ∀ (ps : List Byte) (i : Nat), param1 ps i = (ps.getD i 0).toNat
      ∧ param2 ps i = 256 * (ps.getD i 0).toNat + (ps.getD (i + 1) 0).toNat
      ∧ param4 ps i = 65536 * param2 ps i + param2 ps (i + 2)

/-- R184, R185, R68, R70, R176: READ VIEW and RELEASE HELD with parameters in range request the view store and
wait; out of range they are refused with REFUSED_FORMAT. The arbiter grants a request at once while the store is
free; when a grant ends it grants the frame receiver before the share engine, the sweep and the charger port, in
this order, but for a snapshot that was requested before the frame receiver. -/
def Obligations.ViewCommandsWaitForTheStore : Prop :=
  (∀ (start count flags : Byte) (s : State), s.taking 0x12 [start, count, flags] →
      s.configured = true →
      let ok := (start.toNat ≤ 35 ∨ start = 0xFF) ∧ 1 ≤ count.toNat ∧ count.toNat ≤ 6
      (ok → exec .readView s = .next { s with
          store := s.store.request .readView
          port :=
            { s.port with
              ready := none
              waiting := some
                { command := .readView (if start = 0xFF then none else some start.toNat) count.toNat
                    (flags.getLsbD 0)
                  responseLost := decide (s.port.txn ≠ .execute) } } })
        ∧ (¬ok → exec .readView s = .next { s with port := s.port.answering [0xC3, 0] }))
    ∧ (∀ (ranges : List (Byte × Byte)) (s : State),
      s.taking 0x14 (BitVec.ofNat 8 ranges.length :: ranges.flatMap fun r => [r.1, r.2]) →
      s.configured = true → ranges.length < 128 →
      let ok := 1 ≤ ranges.length ∧ ranges.length ≤ 8
        ∧ ∀ r ∈ ranges, 1 ≤ r.2.toNat ∧ r.2.toNat ≤ 36
      (ok → exec .releaseHeld s = .next { s with
          store := s.store.request .releaseHeld
          port :=
            { s.port with
              ready := none
              waiting := some
                { command := .releaseHeld (ranges.map fun r => (r.1.toNat, r.2.toNat))
                  responseLost := decide (s.port.txn ≠ .execute) } } })
        ∧ (¬ok → exec .releaseHeld s = .next { s with port := s.port.answering [0xC3, 0] }))
    ∧ ∀ (a : Access) (st : Store),
      (st.grant = none → st.request a = { st with grant := some a })
        ∧ (st.grant ≠ none → st.request a = { st with waiting := st.waiting ++ [a] })
        ∧ (st.waiting = [] → st.release = { grant := none, waiting := [] })
        ∧ (st.waiting ≠ [] →
          ∃ b ∈ st.waiting, st.release = { grant := some b, waiting := st.waiting.erase b }
            ∧ (∀ before rest, st.waiting = before ++ .claimWrite :: rest → .snapshot ∉ before →
              b = .claimWrite)
            ∧ (∀ before rest, st.waiting = before ++ .snapshot :: rest → .claimWrite ∉ before →
              b = .snapshot)
            ∧ (.claimWrite ∉ st.waiting → .snapshot ∉ st.waiting →
              (.expectedWrite ∈ st.waiting → b = .expectedWrite)
                ∧ (.expectedWrite ∉ st.waiting →
                  (.sweep ∈ st.waiting → b = .sweep)
                    ∧ (.sweep ∉ st.waiting → st.waiting.head? = some b))))

/-- R189, R190: READ NOTICE removes the oldest notice and answers with its record; ATTN is deasserted when the
queue becomes empty; with no notice it answers with no data. The kinds and the causes have the codes of Table
11-7. -/
def Obligations.ReadNoticeRemovesTheOldest : Prop :=
  (∀ (n : Notice) (rest : List Notice) (s : State), s.taking 0x13 [] →
      s.notices.queue = n :: rest →
      exec .readNotice s = .next { s with
        notices := { s.notices with queue := rest, attn := !rest.isEmpty }
        port := s.port.answering
          ([0x80, 9, BitVec.ofNat 8 (noticeCode n.kind),
              BitVec.ofNat 8 ((if n.pad.isSome then 1 else 0) + (if n.value.isSome then 2 else 0))]
            ++ byte2 n.stamp.toNat ++ byte1 (n.pad.getD 0) ++ byte4 (n.value.getD 0)) })
    ∧ (∀ s : State, s.taking 0x13 [] → s.notices.queue = [] →
      exec .readNotice s = .next { s with
        notices := { s.notices with attn := false }, port := s.port.answering [0x80, 0] })
    ∧ [NoticeKind.session, .contactorFault, .dockLost, .turnClash, .heldSet, .heldCleared, .identityChanged,
        .viewMismatch, .conflict, .isolated, .rejoined, .resync, .curtailOn, .curtailOff, .overdraw,
        .reportLost].map noticeCode = [1, 2, 3, 4, 5, 6, 7, 8, 9, 10, 11, 12, 13, 14, 15, 16]
    ∧ [Cause.setup, .dockAsserted, .dockCommand, .turn, .mainConfirmed, .endCommand, .complete, .reportLost,
        .dockLost, .conflict, .opened, .contactorFault, .overdraw, .clearFault].map causeCode
      = [1, 2, 3, 4, 5, 6, 7, 8, 9, 10, 11, 12, 13, 14]

/-- R17, R37, R54, R94, R114, R132, R152, R173, R187, R189: an accepted PORT RESET, block by block, and what it
keeps; in another session state, or with a drive on, it is refused. That a pulse on SPCHG keeps its time and
every other step that is due is dropped is the model's reading (log entry 24, DEDUCED), and so is the instant
from which the silence of SEARCH is measured the model's choice (log entry 23, DESIGN CHOICE), as are that the
next period start stays where it was (log entry 39, DESIGN CHOICE), that the candidate order and the turns given
are emptied (log entry 41, DESIGN CHOICE), that the snapshot and the figures of a completed computation are kept
(log entry 21, DESIGN CHOICE), that the limits in force and the budgets are kept (log entry 46, DESIGN CHOICE),
that the check field of a reset half is 0 (log entry 13, DESIGN CHOICE), and that the port is busy until the
view part has ended (log entry 42, DESIGN CHOICE). -/
def Obligations.PortResetResetsTheBlocksItNames : Prop :=
  ∀ (instant : Nat) (s : State), s.taking 0x1F [] → s.configured = true →
    let allowed := (s.session.state = .vacant ∨ s.session.state = .docked ∨ s.session.state = .intent
      ∨ s.session.state = .released) ∧ s.seq.preDrive = false ∧ s.seq.mainDrive = false
    (allowed →
        ∃ t, exec (.portReset instant) s = .next t
          ∧ t.timer =
            { s.timer with
              mode := .search, slot := none, searchStart := s.timer.periodStart + (instant : Int),
              reference := none, misaligned := 0, silence := 0, target := none, inGap := false,
              lastBoundary := none }
          ∧ t.standing =
            { s.standing with
              state := .acquire, failures := 0, backoff := 0, goodRun := 0, occupant := none,
              skipped := false }
          ∧ (s.line.txActive = false →
            t.line = { s.line with pending := Half.reset, sent := Half.reset, echo := .notSent })
          ∧ (s.line.txActive = true → t.line = { s.line with txAbandoned := true })
          ∧ t.qual.dock = s.qual.dock ∧ t.qual.curtail = { level := false, run := 0 }
          ∧ t.qual.preFb = { level := false, run := 0 } ∧ t.qual.mainFb = { level := false, run := 0 }
          ∧ t.limit =
            { s.limit with
              assertionSeen := false, levelSeen := false, ownCurtail := false, inForce := false }
          ∧ t.share.published = s.share.published ∧ t.share.phase = .none
          ∧ (s.share.phase = .none → t.share = s.share)
          ∧ (s.share.phase ≠ .none → t.share.snapshot = none ∧ t.share.participants = [])
          ∧ t.applyUnit =
            { grant := 0, applied := 0, lastCommit := 0, lastEchoed := 0, spchg := s.applyUnit.spchg }
          ∧ t.turn =
            { order := [], given := [], ownTurn := false, intentAge := 0, ownCandidate := none,
              deciding := false, barred := false }
          ∧ t.seq.phase = .idle ∧ t.seq.openMode = .none ∧ t.seq.prechargeCount = 0
          ∧ t.seq.openTimeout = 0 ∧ t.seq.switched = false ∧ t.seq.preConfirm = .agreed
          ∧ t.seq.mainConfirm = .agreed ∧ t.seq.preDrive = false ∧ t.seq.mainDrive = false
          ∧ t.session =
            { state := if s.docked then .docked else .vacant, record := none, lastMeasured := 0,
              reportAge := 0, overdrawRun := 0, held := [] }
          ∧ t.notices = { queue := [], lost := false, attn := false }
          ∧ t.port =
            { s.port with
              ready := none, resetCause := .port
              waiting := some
                { command := .portReset, responseLost := decide (s.port.txn ≠ .execute) } }
          ∧ t.store =
            ({ s.store with
              waiting := s.store.waiting.filter fun a => a != .snapshot && a != .sweep }
              : Store).request .portResetView
          ∧ t.due = { Due.nothing with spchgEnd := s.due.spchgEnd }
          ∧ t.cfg = s.cfg ∧ t.view = s.view ∧ t.line.errors = s.line.errors
          ∧ t.inputs = s.inputs ∧ t.resetHeld = false ∧ t.identity = s.identity
          ∧ t.pending = s.pending ∧ t.free = s.free)
      ∧ (¬allowed → exec (.portReset instant) s = .next { s with
        port := s.port.answering [0xC1, 0] })

/-! ### What holds of every step -/

/-- The invariants hold in the machine right after reset (R76, R131, R191). -/
def Obligations.InvariantsHoldAtReset : Prop :=
  State.reset.viewProper ∧ State.reset.noticesProper ∧ State.reset.setpointBounded

/-- 04, sections 4.1 to 4.5 (R55 to R58, R61, R63, R65, R192, Table 4-1): every command keeps the peer view
proper: each entry's fields are those of its state, a HELD entry reserves at least 1 kW and an ADOPTED one the
adoption reserve, the held set has bit n set exactly where pad n is HELD, the counts are those of the table, and
the own entry is EMPTY. -/
def Obligations.EveryCommandKeepsTheViewProper : Prop :=
  ∀ (c : Instr) (s t : State), s.viewProper → exec c s = .next t → t.viewProper

/-- 10, section 10.8 (R188, R189): every command keeps the queue within 16 notices, and ATTN asserted exactly
while it holds one. A notice that is raised joins behind the others while fewer than 16 are in the queue, with
ATTN asserted; a queue of 16 drops it and sets the lost-notice flag, with ATTN as it was. -/
def Obligations.EveryCommandKeepsTheNoticesProper : Prop :=
  (∀ (c : Instr) (s t : State), s.noticesProper → exec c s = .next t → t.noticesProper)
    ∧ ∀ (q : NoticeQueue) (n : Notice),
      (q.queue.length < 16 → q.push n = { queue := q.queue ++ [n], lost := q.lost, attn := true })
        ∧ (16 ≤ q.queue.length → q.push n = { queue := q.queue, lost := true, attn := q.attn })

/-- 07, section 7.3 (R125): every command keeps the applied setpoint within the last echoed commit and the
charger rating. -/
def Obligations.EveryCommandKeepsTheSetpointBounded : Prop :=
  ∀ (c : Instr) (s t : State), s.setpointBounded → exec c s = .next t → t.setpointBounded

/-- R22, R143 to R145, R149: apart from power-on reset a drive changes only in the switch window; PRE is
switched on only in TURN_TAKEN, which is entered only on an own turn; MAIN is switched on only after the
precharge rounds, and off only while the applied setpoint is 0. -/
def Obligations.DrivesChangeOnlyInTheSwitchWindow : Prop :=
  ∀ (c : Instr) (s t : State), exec c s = .next t → (∀ cause, c ≠ .powerOnReset cause) →
    (t.seq.preDrive ≠ s.seq.preDrive ∨ t.seq.mainDrive ≠ s.seq.mainDrive → c = .switchWindow)
      ∧ (s.seq.preDrive = false → t.seq.preDrive = true → s.seq.phase = .turnTaken)
      ∧ (s.seq.phase ≠ .turnTaken → t.seq.phase = .turnTaken →
        c = .turnDecision ∧ t.turn.ownTurn = true)
      ∧ (s.seq.mainDrive = false → t.seq.mainDrive = true →
        s.seq.phase = .precharging ∧ s.cfg.prechargeRounds ≤ s.seq.prechargeCount
          ∧ s.seq.preConfirm = .agreed)
      ∧ (s.seq.mainDrive = true → t.seq.mainDrive = false → s.applyUnit.applied = 0)

/-- R77: a HELD entry leaves HELD by a receipt for its pad, by RELEASE HELD and by power-on reset only. -/
def Obligations.HeldEntriesLeaveHeldInThreeWays : Prop :=
  ∀ (c : Instr) (s t : State) (pad : Nat), exec c s = .next t → (s.view.entry pad).state = .held →
    (t.view.entry pad).state ≠ .held →
    (c = .claimFiled ∧ (∃ claim, s.line.register = some claim ∧ claim.pad = pad)
        ∧ (t.view.entry pad).state = .live)
      ∨ (c = .releaseHeldAccess ∧ t.view.entry pad = Entry.blank)
      ∨ ((∃ cause, c = .powerOnReset cause) ∧ t.view.entry pad = Entry.blank)

/-- 03, section 3.6 (R51): the standing leaves CONFLICT on PORT RESET and on power-on reset only. -/
def Obligations.ConflictIsLeftOnlyByAReset : Prop :=
  ∀ (c : Instr) (s t : State), exec c s = .next t → s.standing.state = .conflict →
    t.standing.state ≠ .conflict →
    ((∃ instant, c = .portReset instant) ∧ t.standing.state = .acquire)
      ∨ ((∃ cause, c = .powerOnReset cause) ∧ t.standing.state = .unconfigured)

/-- 02, section 2.4 (R24): the round counter and the tick count change only at round boundaries, and are 0
after power-on reset. -/
def Obligations.CountersChangeOnlyAtRoundBoundaries : Prop :=
  ∀ (c : Instr) (s t : State), exec c s = .next t →
    t.timer.roundCounter ≠ s.timer.roundCounter ∨ t.timer.tickCount ≠ s.timer.tickCount →
    (c = .roundBoundary ∧ t.timer.roundCounter = s.timer.roundCounter + 1)
      ∨ ((∃ cause, c = .powerOnReset cause) ∧ t.timer.roundCounter = 0 ∧ t.timer.tickCount = 0)
end

