-- ==== Sys2Proof/Laws/State.lean ====
section
/-! SUPPORT. The fields of the state after each shared update: one lemma a field, true by unfolding, so that
no later proof unfolds a record update. -/

namespace Sys2Proof.Machine

/-! State.raise -/

@[simp] theorem State.raise_identity (s : State) (k : NoticeKind) (p v : Option Nat) :
    (s.raise k p v).identity = s.identity := rfl
@[simp] theorem State.raise_resetHeld (s : State) (k : NoticeKind) (p v : Option Nat) :
    (s.raise k p v).resetHeld = s.resetHeld := rfl
@[simp] theorem State.raise_inputs (s : State) (k : NoticeKind) (p v : Option Nat) :
    (s.raise k p v).inputs = s.inputs := rfl
@[simp] theorem State.raise_cfg (s : State) (k : NoticeKind) (p v : Option Nat) :
    (s.raise k p v).cfg = s.cfg := rfl
@[simp] theorem State.raise_qual (s : State) (k : NoticeKind) (p v : Option Nat) :
    (s.raise k p v).qual = s.qual := rfl
@[simp] theorem State.raise_line (s : State) (k : NoticeKind) (p v : Option Nat) :
    (s.raise k p v).line = s.line := rfl
@[simp] theorem State.raise_timer (s : State) (k : NoticeKind) (p v : Option Nat) :
    (s.raise k p v).timer = s.timer := rfl
@[simp] theorem State.raise_standing (s : State) (k : NoticeKind) (p v : Option Nat) :
    (s.raise k p v).standing = s.standing := rfl
@[simp] theorem State.raise_view (s : State) (k : NoticeKind) (p v : Option Nat) :
    (s.raise k p v).view = s.view := rfl
@[simp] theorem State.raise_store (s : State) (k : NoticeKind) (p v : Option Nat) :
    (s.raise k p v).store = s.store := rfl
@[simp] theorem State.raise_limit (s : State) (k : NoticeKind) (p v : Option Nat) :
    (s.raise k p v).limit = s.limit := rfl
@[simp] theorem State.raise_share (s : State) (k : NoticeKind) (p v : Option Nat) :
    (s.raise k p v).share = s.share := rfl
@[simp] theorem State.raise_applyUnit (s : State) (k : NoticeKind) (p v : Option Nat) :
    (s.raise k p v).applyUnit = s.applyUnit := rfl
@[simp] theorem State.raise_turn (s : State) (k : NoticeKind) (p v : Option Nat) :
    (s.raise k p v).turn = s.turn := rfl
@[simp] theorem State.raise_seq (s : State) (k : NoticeKind) (p v : Option Nat) :
    (s.raise k p v).seq = s.seq := rfl
@[simp] theorem State.raise_session (s : State) (k : NoticeKind) (p v : Option Nat) :
    (s.raise k p v).session = s.session := rfl
@[simp] theorem State.raise_port (s : State) (k : NoticeKind) (p v : Option Nat) :
    (s.raise k p v).port = s.port := rfl
@[simp] theorem State.raise_due (s : State) (k : NoticeKind) (p v : Option Nat) :
    (s.raise k p v).due = s.due := rfl
@[simp] theorem State.raise_free (s : State) (k : NoticeKind) (p v : Option Nat) :
    (s.raise k p v).free = s.free := rfl
@[simp] theorem State.raise_pending (s : State) (k : NoticeKind) (p v : Option Nat) :
    (s.raise k p v).pending = s.pending := rfl

/-! State.setSession -/

@[simp] theorem State.setSession_identity (s : State) (n : SessionState) (c : Cause) :
    (s.setSession n c).identity = s.identity := rfl
@[simp] theorem State.setSession_resetHeld (s : State) (n : SessionState) (c : Cause) :
    (s.setSession n c).resetHeld = s.resetHeld := rfl
@[simp] theorem State.setSession_inputs (s : State) (n : SessionState) (c : Cause) :
    (s.setSession n c).inputs = s.inputs := rfl
@[simp] theorem State.setSession_cfg (s : State) (n : SessionState) (c : Cause) :
    (s.setSession n c).cfg = s.cfg := rfl
@[simp] theorem State.setSession_qual (s : State) (n : SessionState) (c : Cause) :
    (s.setSession n c).qual = s.qual := rfl
@[simp] theorem State.setSession_line (s : State) (n : SessionState) (c : Cause) :
    (s.setSession n c).line = s.line := rfl
@[simp] theorem State.setSession_timer (s : State) (n : SessionState) (c : Cause) :
    (s.setSession n c).timer = s.timer := rfl
@[simp] theorem State.setSession_standing (s : State) (n : SessionState) (c : Cause) :
    (s.setSession n c).standing = s.standing := rfl
@[simp] theorem State.setSession_view (s : State) (n : SessionState) (c : Cause) :
    (s.setSession n c).view = s.view := rfl
@[simp] theorem State.setSession_store (s : State) (n : SessionState) (c : Cause) :
    (s.setSession n c).store = s.store := rfl
@[simp] theorem State.setSession_limit (s : State) (n : SessionState) (c : Cause) :
    (s.setSession n c).limit = s.limit := rfl
@[simp] theorem State.setSession_share (s : State) (n : SessionState) (c : Cause) :
    (s.setSession n c).share = s.share := rfl
@[simp] theorem State.setSession_applyUnit (s : State) (n : SessionState) (c : Cause) :
    (s.setSession n c).applyUnit = s.applyUnit := rfl
@[simp] theorem State.setSession_seq (s : State) (n : SessionState) (c : Cause) :
    (s.setSession n c).seq = s.seq := rfl
@[simp] theorem State.setSession_port (s : State) (n : SessionState) (c : Cause) :
    (s.setSession n c).port = s.port := rfl
@[simp] theorem State.setSession_free (s : State) (n : SessionState) (c : Cause) :
    (s.setSession n c).free = s.free := rfl
@[simp] theorem State.setSession_pending (s : State) (n : SessionState) (c : Cause) :
    (s.setSession n c).pending = s.pending := rfl

/-! State.requestOpen -/

@[simp] theorem State.requestOpen_identity (s : State) (m : OpenMode) :
    (s.requestOpen m).identity = s.identity := rfl
@[simp] theorem State.requestOpen_resetHeld (s : State) (m : OpenMode) :
    (s.requestOpen m).resetHeld = s.resetHeld := rfl
@[simp] theorem State.requestOpen_inputs (s : State) (m : OpenMode) :
    (s.requestOpen m).inputs = s.inputs := rfl
@[simp] theorem State.requestOpen_cfg (s : State) (m : OpenMode) :
    (s.requestOpen m).cfg = s.cfg := rfl
@[simp] theorem State.requestOpen_qual (s : State) (m : OpenMode) :
    (s.requestOpen m).qual = s.qual := rfl
@[simp] theorem State.requestOpen_line (s : State) (m : OpenMode) :
    (s.requestOpen m).line = s.line := rfl
@[simp] theorem State.requestOpen_timer (s : State) (m : OpenMode) :
    (s.requestOpen m).timer = s.timer := rfl
@[simp] theorem State.requestOpen_standing (s : State) (m : OpenMode) :
    (s.requestOpen m).standing = s.standing := rfl
@[simp] theorem State.requestOpen_view (s : State) (m : OpenMode) :
    (s.requestOpen m).view = s.view := rfl
@[simp] theorem State.requestOpen_store (s : State) (m : OpenMode) :
    (s.requestOpen m).store = s.store := rfl
@[simp] theorem State.requestOpen_limit (s : State) (m : OpenMode) :
    (s.requestOpen m).limit = s.limit := rfl
@[simp] theorem State.requestOpen_share (s : State) (m : OpenMode) :
    (s.requestOpen m).share = s.share := rfl
@[simp] theorem State.requestOpen_applyUnit (s : State) (m : OpenMode) :
    (s.requestOpen m).applyUnit = s.applyUnit := rfl
@[simp] theorem State.requestOpen_turn (s : State) (m : OpenMode) :
    (s.requestOpen m).turn = s.turn := rfl
@[simp] theorem State.requestOpen_session (s : State) (m : OpenMode) :
    (s.requestOpen m).session = s.session := rfl
@[simp] theorem State.requestOpen_port (s : State) (m : OpenMode) :
    (s.requestOpen m).port = s.port := rfl
@[simp] theorem State.requestOpen_notices (s : State) (m : OpenMode) :
    (s.requestOpen m).notices = s.notices := rfl
@[simp] theorem State.requestOpen_due (s : State) (m : OpenMode) :
    (s.requestOpen m).due = s.due := rfl
@[simp] theorem State.requestOpen_free (s : State) (m : OpenMode) :
    (s.requestOpen m).free = s.free := rfl
@[simp] theorem State.requestOpen_pending (s : State) (m : OpenMode) :
    (s.requestOpen m).pending = s.pending := rfl

/-! State.contactorsOpen -/

@[simp] theorem State.contactorsOpen_identity (s : State) :
    (s.contactorsOpen).identity = s.identity := rfl
@[simp] theorem State.contactorsOpen_resetHeld (s : State) :
    (s.contactorsOpen).resetHeld = s.resetHeld := rfl
@[simp] theorem State.contactorsOpen_inputs (s : State) :
    (s.contactorsOpen).inputs = s.inputs := rfl
@[simp] theorem State.contactorsOpen_cfg (s : State) :
    (s.contactorsOpen).cfg = s.cfg := rfl
@[simp] theorem State.contactorsOpen_qual (s : State) :
    (s.contactorsOpen).qual = s.qual := rfl
@[simp] theorem State.contactorsOpen_line (s : State) :
    (s.contactorsOpen).line = s.line := rfl
@[simp] theorem State.contactorsOpen_timer (s : State) :
    (s.contactorsOpen).timer = s.timer := rfl
@[simp] theorem State.contactorsOpen_standing (s : State) :
    (s.contactorsOpen).standing = s.standing := rfl
@[simp] theorem State.contactorsOpen_view (s : State) :
    (s.contactorsOpen).view = s.view := rfl
@[simp] theorem State.contactorsOpen_store (s : State) :
    (s.contactorsOpen).store = s.store := rfl
@[simp] theorem State.contactorsOpen_limit (s : State) :
    (s.contactorsOpen).limit = s.limit := rfl
@[simp] theorem State.contactorsOpen_share (s : State) :
    (s.contactorsOpen).share = s.share := rfl
@[simp] theorem State.contactorsOpen_applyUnit (s : State) :
    (s.contactorsOpen).applyUnit = s.applyUnit := rfl
@[simp] theorem State.contactorsOpen_seq (s : State) :
    (s.contactorsOpen).seq = s.seq := rfl
@[simp] theorem State.contactorsOpen_port (s : State) :
    (s.contactorsOpen).port = s.port := rfl
@[simp] theorem State.contactorsOpen_free (s : State) :
    (s.contactorsOpen).free = s.free := rfl
@[simp] theorem State.contactorsOpen_pending (s : State) :
    (s.contactorsOpen).pending = s.pending := rfl

/-! State.takeEnd -/

@[simp] theorem State.takeEnd_identity (s : State) :
    (s.takeEnd).identity = s.identity := rfl
@[simp] theorem State.takeEnd_resetHeld (s : State) :
    (s.takeEnd).resetHeld = s.resetHeld := rfl
@[simp] theorem State.takeEnd_inputs (s : State) :
    (s.takeEnd).inputs = s.inputs := rfl
@[simp] theorem State.takeEnd_cfg (s : State) :
    (s.takeEnd).cfg = s.cfg := rfl
@[simp] theorem State.takeEnd_qual (s : State) :
    (s.takeEnd).qual = s.qual := rfl
@[simp] theorem State.takeEnd_line (s : State) :
    (s.takeEnd).line = s.line := rfl
@[simp] theorem State.takeEnd_timer (s : State) :
    (s.takeEnd).timer = s.timer := rfl
@[simp] theorem State.takeEnd_standing (s : State) :
    (s.takeEnd).standing = s.standing := rfl
@[simp] theorem State.takeEnd_view (s : State) :
    (s.takeEnd).view = s.view := rfl
@[simp] theorem State.takeEnd_store (s : State) :
    (s.takeEnd).store = s.store := rfl
@[simp] theorem State.takeEnd_limit (s : State) :
    (s.takeEnd).limit = s.limit := rfl
@[simp] theorem State.takeEnd_share (s : State) :
    (s.takeEnd).share = s.share := rfl
@[simp] theorem State.takeEnd_applyUnit (s : State) :
    (s.takeEnd).applyUnit = s.applyUnit := rfl
@[simp] theorem State.takeEnd_port (s : State) :
    (s.takeEnd).port = s.port := rfl
@[simp] theorem State.takeEnd_free (s : State) :
    (s.takeEnd).free = s.free := rfl
@[simp] theorem State.takeEnd_pending (s : State) :
    (s.takeEnd).pending = s.pending := rfl

/-! State.takeDockLoss -/

@[simp] theorem State.takeDockLoss_identity (s : State) :
    (s.takeDockLoss).identity = s.identity := rfl
@[simp] theorem State.takeDockLoss_resetHeld (s : State) :
    (s.takeDockLoss).resetHeld = s.resetHeld := rfl
@[simp] theorem State.takeDockLoss_inputs (s : State) :
    (s.takeDockLoss).inputs = s.inputs := rfl
@[simp] theorem State.takeDockLoss_cfg (s : State) :
    (s.takeDockLoss).cfg = s.cfg := rfl
@[simp] theorem State.takeDockLoss_qual (s : State) :
    (s.takeDockLoss).qual = s.qual := rfl
@[simp] theorem State.takeDockLoss_line (s : State) :
    (s.takeDockLoss).line = s.line := rfl
@[simp] theorem State.takeDockLoss_timer (s : State) :
    (s.takeDockLoss).timer = s.timer := rfl
@[simp] theorem State.takeDockLoss_standing (s : State) :
    (s.takeDockLoss).standing = s.standing := rfl
@[simp] theorem State.takeDockLoss_view (s : State) :
    (s.takeDockLoss).view = s.view := rfl
@[simp] theorem State.takeDockLoss_store (s : State) :
    (s.takeDockLoss).store = s.store := rfl
@[simp] theorem State.takeDockLoss_limit (s : State) :
    (s.takeDockLoss).limit = s.limit := rfl
@[simp] theorem State.takeDockLoss_share (s : State) :
    (s.takeDockLoss).share = s.share := rfl
@[simp] theorem State.takeDockLoss_applyUnit (s : State) :
    (s.takeDockLoss).applyUnit = s.applyUnit := rfl
@[simp] theorem State.takeDockLoss_port (s : State) :
    (s.takeDockLoss).port = s.port := rfl
@[simp] theorem State.takeDockLoss_pending (s : State) :
    (s.takeDockLoss).pending = s.pending := rfl

/-! State.signalConflict -/

@[simp] theorem State.signalConflict_identity (s : State) :
    (s.signalConflict).identity = s.identity := rfl
@[simp] theorem State.signalConflict_resetHeld (s : State) :
    (s.signalConflict).resetHeld = s.resetHeld := rfl
@[simp] theorem State.signalConflict_inputs (s : State) :
    (s.signalConflict).inputs = s.inputs := rfl
@[simp] theorem State.signalConflict_cfg (s : State) :
    (s.signalConflict).cfg = s.cfg := rfl
@[simp] theorem State.signalConflict_qual (s : State) :
    (s.signalConflict).qual = s.qual := rfl
@[simp] theorem State.signalConflict_line (s : State) :
    (s.signalConflict).line = s.line := rfl
@[simp] theorem State.signalConflict_timer (s : State) :
    (s.signalConflict).timer = s.timer := rfl
@[simp] theorem State.signalConflict_standing (s : State) :
    (s.signalConflict).standing = s.standing := rfl
@[simp] theorem State.signalConflict_view (s : State) :
    (s.signalConflict).view = s.view := rfl
@[simp] theorem State.signalConflict_store (s : State) :
    (s.signalConflict).store = s.store := rfl
@[simp] theorem State.signalConflict_limit (s : State) :
    (s.signalConflict).limit = s.limit := rfl
@[simp] theorem State.signalConflict_share (s : State) :
    (s.signalConflict).share = s.share := rfl
@[simp] theorem State.signalConflict_applyUnit (s : State) :
    (s.signalConflict).applyUnit = s.applyUnit := rfl
@[simp] theorem State.signalConflict_port (s : State) :
    (s.signalConflict).port = s.port := rfl
@[simp] theorem State.signalConflict_free (s : State) :
    (s.signalConflict).free = s.free := rfl
@[simp] theorem State.signalConflict_pending (s : State) :
    (s.signalConflict).pending = s.pending := rfl

/-! State.contactorFault -/

@[simp] theorem State.contactorFault_identity (s : State) (c : Contactor) (code : Nat) :
    (s.contactorFault c code).identity = s.identity := rfl
@[simp] theorem State.contactorFault_resetHeld (s : State) (c : Contactor) (code : Nat) :
    (s.contactorFault c code).resetHeld = s.resetHeld := rfl
@[simp] theorem State.contactorFault_inputs (s : State) (c : Contactor) (code : Nat) :
    (s.contactorFault c code).inputs = s.inputs := rfl
@[simp] theorem State.contactorFault_cfg (s : State) (c : Contactor) (code : Nat) :
    (s.contactorFault c code).cfg = s.cfg := rfl
@[simp] theorem State.contactorFault_qual (s : State) (c : Contactor) (code : Nat) :
    (s.contactorFault c code).qual = s.qual := rfl
@[simp] theorem State.contactorFault_line (s : State) (c : Contactor) (code : Nat) :
    (s.contactorFault c code).line = s.line := rfl
@[simp] theorem State.contactorFault_timer (s : State) (c : Contactor) (code : Nat) :
    (s.contactorFault c code).timer = s.timer := rfl
@[simp] theorem State.contactorFault_standing (s : State) (c : Contactor) (code : Nat) :
    (s.contactorFault c code).standing = s.standing := rfl
@[simp] theorem State.contactorFault_view (s : State) (c : Contactor) (code : Nat) :
    (s.contactorFault c code).view = s.view := rfl
@[simp] theorem State.contactorFault_store (s : State) (c : Contactor) (code : Nat) :
    (s.contactorFault c code).store = s.store := rfl
@[simp] theorem State.contactorFault_limit (s : State) (c : Contactor) (code : Nat) :
    (s.contactorFault c code).limit = s.limit := rfl
@[simp] theorem State.contactorFault_share (s : State) (c : Contactor) (code : Nat) :
    (s.contactorFault c code).share = s.share := rfl
@[simp] theorem State.contactorFault_applyUnit (s : State) (c : Contactor) (code : Nat) :
    (s.contactorFault c code).applyUnit = s.applyUnit := rfl
@[simp] theorem State.contactorFault_port (s : State) (c : Contactor) (code : Nat) :
    (s.contactorFault c code).port = s.port := rfl
@[simp] theorem State.contactorFault_free (s : State) (c : Contactor) (code : Nat) :
    (s.contactorFault c code).free = s.free := rfl
@[simp] theorem State.contactorFault_pending (s : State) (c : Contactor) (code : Nat) :
    (s.contactorFault c code).pending = s.pending := rfl

/-! State.enterConflict -/

@[simp] theorem State.enterConflict_identity (s : State) (i : Identity) :
    (s.enterConflict i).identity = s.identity := rfl
@[simp] theorem State.enterConflict_resetHeld (s : State) (i : Identity) :
    (s.enterConflict i).resetHeld = s.resetHeld := rfl
@[simp] theorem State.enterConflict_inputs (s : State) (i : Identity) :
    (s.enterConflict i).inputs = s.inputs := rfl
@[simp] theorem State.enterConflict_cfg (s : State) (i : Identity) :
    (s.enterConflict i).cfg = s.cfg := rfl
@[simp] theorem State.enterConflict_qual (s : State) (i : Identity) :
    (s.enterConflict i).qual = s.qual := rfl
@[simp] theorem State.enterConflict_line (s : State) (i : Identity) :
    (s.enterConflict i).line = s.line := rfl
@[simp] theorem State.enterConflict_timer (s : State) (i : Identity) :
    (s.enterConflict i).timer = s.timer := rfl
@[simp] theorem State.enterConflict_view (s : State) (i : Identity) :
    (s.enterConflict i).view = s.view := rfl
@[simp] theorem State.enterConflict_store (s : State) (i : Identity) :
    (s.enterConflict i).store = s.store := rfl
@[simp] theorem State.enterConflict_limit (s : State) (i : Identity) :
    (s.enterConflict i).limit = s.limit := rfl
@[simp] theorem State.enterConflict_share (s : State) (i : Identity) :
    (s.enterConflict i).share = s.share := rfl
@[simp] theorem State.enterConflict_applyUnit (s : State) (i : Identity) :
    (s.enterConflict i).applyUnit = s.applyUnit := rfl
@[simp] theorem State.enterConflict_port (s : State) (i : Identity) :
    (s.enterConflict i).port = s.port := rfl
@[simp] theorem State.enterConflict_free (s : State) (i : Identity) :
    (s.enterConflict i).free = s.free := rfl
@[simp] theorem State.enterConflict_pending (s : State) (i : Identity) :
    (s.enterConflict i).pending = s.pending := rfl

/-! State.enterResync -/

@[simp] theorem State.enterResync_identity (s : State) :
    (s.enterResync).identity = s.identity := rfl
@[simp] theorem State.enterResync_resetHeld (s : State) :
    (s.enterResync).resetHeld = s.resetHeld := rfl
@[simp] theorem State.enterResync_inputs (s : State) :
    (s.enterResync).inputs = s.inputs := rfl
@[simp] theorem State.enterResync_cfg (s : State) :
    (s.enterResync).cfg = s.cfg := rfl
@[simp] theorem State.enterResync_qual (s : State) :
    (s.enterResync).qual = s.qual := rfl
@[simp] theorem State.enterResync_line (s : State) :
    (s.enterResync).line = s.line := rfl
@[simp] theorem State.enterResync_view (s : State) :
    (s.enterResync).view = s.view := rfl
@[simp] theorem State.enterResync_store (s : State) :
    (s.enterResync).store = s.store := rfl
@[simp] theorem State.enterResync_limit (s : State) :
    (s.enterResync).limit = s.limit := rfl
@[simp] theorem State.enterResync_share (s : State) :
    (s.enterResync).share = s.share := rfl
@[simp] theorem State.enterResync_applyUnit (s : State) :
    (s.enterResync).applyUnit = s.applyUnit := rfl
@[simp] theorem State.enterResync_turn (s : State) :
    (s.enterResync).turn = s.turn := rfl
@[simp] theorem State.enterResync_seq (s : State) :
    (s.enterResync).seq = s.seq := rfl
@[simp] theorem State.enterResync_session (s : State) :
    (s.enterResync).session = s.session := rfl
@[simp] theorem State.enterResync_port (s : State) :
    (s.enterResync).port = s.port := rfl
@[simp] theorem State.enterResync_due (s : State) :
    (s.enterResync).due = s.due := rfl
@[simp] theorem State.enterResync_free (s : State) :
    (s.enterResync).free = s.free := rfl
@[simp] theorem State.enterResync_pending (s : State) :
    (s.enterResync).pending = s.pending := rfl

/-! State.respond -/

@[simp] theorem State.respond_identity (s : State) (f : List Byte) :
    (s.respond f).identity = s.identity := rfl
@[simp] theorem State.respond_resetHeld (s : State) (f : List Byte) :
    (s.respond f).resetHeld = s.resetHeld := rfl
@[simp] theorem State.respond_inputs (s : State) (f : List Byte) :
    (s.respond f).inputs = s.inputs := rfl
@[simp] theorem State.respond_cfg (s : State) (f : List Byte) :
    (s.respond f).cfg = s.cfg := rfl
@[simp] theorem State.respond_qual (s : State) (f : List Byte) :
    (s.respond f).qual = s.qual := rfl
@[simp] theorem State.respond_line (s : State) (f : List Byte) :
    (s.respond f).line = s.line := rfl
@[simp] theorem State.respond_timer (s : State) (f : List Byte) :
    (s.respond f).timer = s.timer := rfl
@[simp] theorem State.respond_standing (s : State) (f : List Byte) :
    (s.respond f).standing = s.standing := rfl
@[simp] theorem State.respond_view (s : State) (f : List Byte) :
    (s.respond f).view = s.view := rfl
@[simp] theorem State.respond_store (s : State) (f : List Byte) :
    (s.respond f).store = s.store := rfl
@[simp] theorem State.respond_limit (s : State) (f : List Byte) :
    (s.respond f).limit = s.limit := rfl
@[simp] theorem State.respond_share (s : State) (f : List Byte) :
    (s.respond f).share = s.share := rfl
@[simp] theorem State.respond_applyUnit (s : State) (f : List Byte) :
    (s.respond f).applyUnit = s.applyUnit := rfl
@[simp] theorem State.respond_turn (s : State) (f : List Byte) :
    (s.respond f).turn = s.turn := rfl
@[simp] theorem State.respond_seq (s : State) (f : List Byte) :
    (s.respond f).seq = s.seq := rfl
@[simp] theorem State.respond_session (s : State) (f : List Byte) :
    (s.respond f).session = s.session := rfl
@[simp] theorem State.respond_notices (s : State) (f : List Byte) :
    (s.respond f).notices = s.notices := rfl
@[simp] theorem State.respond_due (s : State) (f : List Byte) :
    (s.respond f).due = s.due := rfl
@[simp] theorem State.respond_free (s : State) (f : List Byte) :
    (s.respond f).free = s.free := rfl
@[simp] theorem State.respond_pending (s : State) (f : List Byte) :
    (s.respond f).pending = s.pending := rfl

/-! State.refuse -/

@[simp] theorem State.refuse_identity (s : State) (b : Byte) :
    (s.refuse b).identity = s.identity := rfl
@[simp] theorem State.refuse_resetHeld (s : State) (b : Byte) :
    (s.refuse b).resetHeld = s.resetHeld := rfl
@[simp] theorem State.refuse_inputs (s : State) (b : Byte) :
    (s.refuse b).inputs = s.inputs := rfl
@[simp] theorem State.refuse_cfg (s : State) (b : Byte) :
    (s.refuse b).cfg = s.cfg := rfl
@[simp] theorem State.refuse_qual (s : State) (b : Byte) :
    (s.refuse b).qual = s.qual := rfl
@[simp] theorem State.refuse_line (s : State) (b : Byte) :
    (s.refuse b).line = s.line := rfl
@[simp] theorem State.refuse_timer (s : State) (b : Byte) :
    (s.refuse b).timer = s.timer := rfl
@[simp] theorem State.refuse_standing (s : State) (b : Byte) :
    (s.refuse b).standing = s.standing := rfl
@[simp] theorem State.refuse_view (s : State) (b : Byte) :
    (s.refuse b).view = s.view := rfl
@[simp] theorem State.refuse_store (s : State) (b : Byte) :
    (s.refuse b).store = s.store := rfl
@[simp] theorem State.refuse_limit (s : State) (b : Byte) :
    (s.refuse b).limit = s.limit := rfl
@[simp] theorem State.refuse_share (s : State) (b : Byte) :
    (s.refuse b).share = s.share := rfl
@[simp] theorem State.refuse_applyUnit (s : State) (b : Byte) :
    (s.refuse b).applyUnit = s.applyUnit := rfl
@[simp] theorem State.refuse_turn (s : State) (b : Byte) :
    (s.refuse b).turn = s.turn := rfl
@[simp] theorem State.refuse_seq (s : State) (b : Byte) :
    (s.refuse b).seq = s.seq := rfl
@[simp] theorem State.refuse_session (s : State) (b : Byte) :
    (s.refuse b).session = s.session := rfl
@[simp] theorem State.refuse_notices (s : State) (b : Byte) :
    (s.refuse b).notices = s.notices := rfl
@[simp] theorem State.refuse_due (s : State) (b : Byte) :
    (s.refuse b).due = s.due := rfl
@[simp] theorem State.refuse_free (s : State) (b : Byte) :
    (s.refuse b).free = s.free := rfl
@[simp] theorem State.refuse_pending (s : State) (b : Byte) :
    (s.refuse b).pending = s.pending := rfl

/-! State.answerWaiting -/

@[simp] theorem State.answerWaiting_identity (s : State) (f : List Byte) :
    (s.answerWaiting f).identity = s.identity := rfl
@[simp] theorem State.answerWaiting_resetHeld (s : State) (f : List Byte) :
    (s.answerWaiting f).resetHeld = s.resetHeld := rfl
@[simp] theorem State.answerWaiting_inputs (s : State) (f : List Byte) :
    (s.answerWaiting f).inputs = s.inputs := rfl
@[simp] theorem State.answerWaiting_cfg (s : State) (f : List Byte) :
    (s.answerWaiting f).cfg = s.cfg := rfl
@[simp] theorem State.answerWaiting_qual (s : State) (f : List Byte) :
    (s.answerWaiting f).qual = s.qual := rfl
@[simp] theorem State.answerWaiting_line (s : State) (f : List Byte) :
    (s.answerWaiting f).line = s.line := rfl
@[simp] theorem State.answerWaiting_timer (s : State) (f : List Byte) :
    (s.answerWaiting f).timer = s.timer := rfl
@[simp] theorem State.answerWaiting_standing (s : State) (f : List Byte) :
    (s.answerWaiting f).standing = s.standing := rfl
@[simp] theorem State.answerWaiting_view (s : State) (f : List Byte) :
    (s.answerWaiting f).view = s.view := rfl
@[simp] theorem State.answerWaiting_store (s : State) (f : List Byte) :
    (s.answerWaiting f).store = s.store := rfl
@[simp] theorem State.answerWaiting_limit (s : State) (f : List Byte) :
    (s.answerWaiting f).limit = s.limit := rfl
@[simp] theorem State.answerWaiting_share (s : State) (f : List Byte) :
    (s.answerWaiting f).share = s.share := rfl
@[simp] theorem State.answerWaiting_applyUnit (s : State) (f : List Byte) :
    (s.answerWaiting f).applyUnit = s.applyUnit := rfl
@[simp] theorem State.answerWaiting_turn (s : State) (f : List Byte) :
    (s.answerWaiting f).turn = s.turn := rfl
@[simp] theorem State.answerWaiting_seq (s : State) (f : List Byte) :
    (s.answerWaiting f).seq = s.seq := rfl
@[simp] theorem State.answerWaiting_session (s : State) (f : List Byte) :
    (s.answerWaiting f).session = s.session := rfl
@[simp] theorem State.answerWaiting_notices (s : State) (f : List Byte) :
    (s.answerWaiting f).notices = s.notices := rfl
@[simp] theorem State.answerWaiting_due (s : State) (f : List Byte) :
    (s.answerWaiting f).due = s.due := rfl
@[simp] theorem State.answerWaiting_free (s : State) (f : List Byte) :
    (s.answerWaiting f).free = s.free := rfl
@[simp] theorem State.answerWaiting_pending (s : State) (f : List Byte) :
    (s.answerWaiting f).pending = s.pending := rfl

/-! State.wait -/

@[simp] theorem State.wait_identity (s : State) (c : WaitingCommand) :
    (s.wait c).identity = s.identity := rfl
@[simp] theorem State.wait_resetHeld (s : State) (c : WaitingCommand) :
    (s.wait c).resetHeld = s.resetHeld := rfl
@[simp] theorem State.wait_inputs (s : State) (c : WaitingCommand) :
    (s.wait c).inputs = s.inputs := rfl
@[simp] theorem State.wait_cfg (s : State) (c : WaitingCommand) :
    (s.wait c).cfg = s.cfg := rfl
@[simp] theorem State.wait_qual (s : State) (c : WaitingCommand) :
    (s.wait c).qual = s.qual := rfl
@[simp] theorem State.wait_line (s : State) (c : WaitingCommand) :
    (s.wait c).line = s.line := rfl
@[simp] theorem State.wait_timer (s : State) (c : WaitingCommand) :
    (s.wait c).timer = s.timer := rfl
@[simp] theorem State.wait_standing (s : State) (c : WaitingCommand) :
    (s.wait c).standing = s.standing := rfl
@[simp] theorem State.wait_view (s : State) (c : WaitingCommand) :
    (s.wait c).view = s.view := rfl
@[simp] theorem State.wait_store (s : State) (c : WaitingCommand) :
    (s.wait c).store = s.store := rfl
@[simp] theorem State.wait_limit (s : State) (c : WaitingCommand) :
    (s.wait c).limit = s.limit := rfl
@[simp] theorem State.wait_share (s : State) (c : WaitingCommand) :
    (s.wait c).share = s.share := rfl
@[simp] theorem State.wait_applyUnit (s : State) (c : WaitingCommand) :
    (s.wait c).applyUnit = s.applyUnit := rfl
@[simp] theorem State.wait_turn (s : State) (c : WaitingCommand) :
    (s.wait c).turn = s.turn := rfl
@[simp] theorem State.wait_seq (s : State) (c : WaitingCommand) :
    (s.wait c).seq = s.seq := rfl
@[simp] theorem State.wait_session (s : State) (c : WaitingCommand) :
    (s.wait c).session = s.session := rfl
@[simp] theorem State.wait_notices (s : State) (c : WaitingCommand) :
    (s.wait c).notices = s.notices := rfl
@[simp] theorem State.wait_due (s : State) (c : WaitingCommand) :
    (s.wait c).due = s.due := rfl
@[simp] theorem State.wait_free (s : State) (c : WaitingCommand) :
    (s.wait c).free = s.free := rfl
@[simp] theorem State.wait_pending (s : State) (c : WaitingCommand) :
    (s.wait c).pending = s.pending := rfl

/-! State.waitForStore -/

@[simp] theorem State.waitForStore_identity (s : State) (c : WaitingCommand) (a : Access) :
    (s.waitForStore c a).identity = s.identity := rfl
@[simp] theorem State.waitForStore_resetHeld (s : State) (c : WaitingCommand) (a : Access) :
    (s.waitForStore c a).resetHeld = s.resetHeld := rfl
@[simp] theorem State.waitForStore_inputs (s : State) (c : WaitingCommand) (a : Access) :
    (s.waitForStore c a).inputs = s.inputs := rfl
@[simp] theorem State.waitForStore_cfg (s : State) (c : WaitingCommand) (a : Access) :
    (s.waitForStore c a).cfg = s.cfg := rfl
@[simp] theorem State.waitForStore_qual (s : State) (c : WaitingCommand) (a : Access) :
    (s.waitForStore c a).qual = s.qual := rfl
@[simp] theorem State.waitForStore_line (s : State) (c : WaitingCommand) (a : Access) :
    (s.waitForStore c a).line = s.line := rfl
@[simp] theorem State.waitForStore_timer (s : State) (c : WaitingCommand) (a : Access) :
    (s.waitForStore c a).timer = s.timer := rfl
@[simp] theorem State.waitForStore_standing (s : State) (c : WaitingCommand) (a : Access) :
    (s.waitForStore c a).standing = s.standing := rfl
@[simp] theorem State.waitForStore_view (s : State) (c : WaitingCommand) (a : Access) :
    (s.waitForStore c a).view = s.view := rfl
@[simp] theorem State.waitForStore_limit (s : State) (c : WaitingCommand) (a : Access) :
    (s.waitForStore c a).limit = s.limit := rfl
@[simp] theorem State.waitForStore_share (s : State) (c : WaitingCommand) (a : Access) :
    (s.waitForStore c a).share = s.share := rfl
@[simp] theorem State.waitForStore_applyUnit (s : State) (c : WaitingCommand) (a : Access) :
    (s.waitForStore c a).applyUnit = s.applyUnit := rfl
@[simp] theorem State.waitForStore_turn (s : State) (c : WaitingCommand) (a : Access) :
    (s.waitForStore c a).turn = s.turn := rfl
@[simp] theorem State.waitForStore_seq (s : State) (c : WaitingCommand) (a : Access) :
    (s.waitForStore c a).seq = s.seq := rfl
@[simp] theorem State.waitForStore_session (s : State) (c : WaitingCommand) (a : Access) :
    (s.waitForStore c a).session = s.session := rfl
@[simp] theorem State.waitForStore_notices (s : State) (c : WaitingCommand) (a : Access) :
    (s.waitForStore c a).notices = s.notices := rfl
@[simp] theorem State.waitForStore_due (s : State) (c : WaitingCommand) (a : Access) :
    (s.waitForStore c a).due = s.due := rfl
@[simp] theorem State.waitForStore_free (s : State) (c : WaitingCommand) (a : Access) :
    (s.waitForStore c a).free = s.free := rfl
@[simp] theorem State.waitForStore_pending (s : State) (c : WaitingCommand) (a : Access) :
    (s.waitForStore c a).pending = s.pending := rfl

/-! State.endAccess -/

@[simp] theorem State.endAccess_identity (s : State) (es : List Entry) :
    (s.endAccess es).identity = s.identity := rfl
@[simp] theorem State.endAccess_resetHeld (s : State) (es : List Entry) :
    (s.endAccess es).resetHeld = s.resetHeld := rfl
@[simp] theorem State.endAccess_inputs (s : State) (es : List Entry) :
    (s.endAccess es).inputs = s.inputs := rfl
@[simp] theorem State.endAccess_cfg (s : State) (es : List Entry) :
    (s.endAccess es).cfg = s.cfg := rfl
@[simp] theorem State.endAccess_qual (s : State) (es : List Entry) :
    (s.endAccess es).qual = s.qual := rfl
@[simp] theorem State.endAccess_line (s : State) (es : List Entry) :
    (s.endAccess es).line = s.line := rfl
@[simp] theorem State.endAccess_timer (s : State) (es : List Entry) :
    (s.endAccess es).timer = s.timer := rfl
@[simp] theorem State.endAccess_standing (s : State) (es : List Entry) :
    (s.endAccess es).standing = s.standing := rfl
@[simp] theorem State.endAccess_limit (s : State) (es : List Entry) :
    (s.endAccess es).limit = s.limit := rfl
@[simp] theorem State.endAccess_share (s : State) (es : List Entry) :
    (s.endAccess es).share = s.share := rfl
@[simp] theorem State.endAccess_applyUnit (s : State) (es : List Entry) :
    (s.endAccess es).applyUnit = s.applyUnit := rfl
@[simp] theorem State.endAccess_turn (s : State) (es : List Entry) :
    (s.endAccess es).turn = s.turn := rfl
@[simp] theorem State.endAccess_seq (s : State) (es : List Entry) :
    (s.endAccess es).seq = s.seq := rfl
@[simp] theorem State.endAccess_session (s : State) (es : List Entry) :
    (s.endAccess es).session = s.session := rfl
@[simp] theorem State.endAccess_port (s : State) (es : List Entry) :
    (s.endAccess es).port = s.port := rfl
@[simp] theorem State.endAccess_notices (s : State) (es : List Entry) :
    (s.endAccess es).notices = s.notices := rfl
@[simp] theorem State.endAccess_due (s : State) (es : List Entry) :
    (s.endAccess es).due = s.due := rfl
@[simp] theorem State.endAccess_free (s : State) (es : List Entry) :
    (s.endAccess es).free = s.free := rfl
@[simp] theorem State.endAccess_pending (s : State) (es : List Entry) :
    (s.endAccess es).pending = s.pending := rfl

/-! State.holdEvent -/

@[simp] theorem State.holdEvent_identity (s : State) (e : HeldEvent) :
    (s.holdEvent e).identity = s.identity := rfl
@[simp] theorem State.holdEvent_resetHeld (s : State) (e : HeldEvent) :
    (s.holdEvent e).resetHeld = s.resetHeld := rfl
@[simp] theorem State.holdEvent_inputs (s : State) (e : HeldEvent) :
    (s.holdEvent e).inputs = s.inputs := rfl
@[simp] theorem State.holdEvent_cfg (s : State) (e : HeldEvent) :
    (s.holdEvent e).cfg = s.cfg := rfl
@[simp] theorem State.holdEvent_qual (s : State) (e : HeldEvent) :
    (s.holdEvent e).qual = s.qual := rfl
@[simp] theorem State.holdEvent_line (s : State) (e : HeldEvent) :
    (s.holdEvent e).line = s.line := rfl
@[simp] theorem State.holdEvent_timer (s : State) (e : HeldEvent) :
    (s.holdEvent e).timer = s.timer := rfl
@[simp] theorem State.holdEvent_standing (s : State) (e : HeldEvent) :
    (s.holdEvent e).standing = s.standing := rfl
@[simp] theorem State.holdEvent_view (s : State) (e : HeldEvent) :
    (s.holdEvent e).view = s.view := rfl
@[simp] theorem State.holdEvent_store (s : State) (e : HeldEvent) :
    (s.holdEvent e).store = s.store := rfl
@[simp] theorem State.holdEvent_limit (s : State) (e : HeldEvent) :
    (s.holdEvent e).limit = s.limit := rfl
@[simp] theorem State.holdEvent_share (s : State) (e : HeldEvent) :
    (s.holdEvent e).share = s.share := rfl
@[simp] theorem State.holdEvent_applyUnit (s : State) (e : HeldEvent) :
    (s.holdEvent e).applyUnit = s.applyUnit := rfl
@[simp] theorem State.holdEvent_turn (s : State) (e : HeldEvent) :
    (s.holdEvent e).turn = s.turn := rfl
@[simp] theorem State.holdEvent_seq (s : State) (e : HeldEvent) :
    (s.holdEvent e).seq = s.seq := rfl
@[simp] theorem State.holdEvent_port (s : State) (e : HeldEvent) :
    (s.holdEvent e).port = s.port := rfl
@[simp] theorem State.holdEvent_notices (s : State) (e : HeldEvent) :
    (s.holdEvent e).notices = s.notices := rfl
@[simp] theorem State.holdEvent_due (s : State) (e : HeldEvent) :
    (s.holdEvent e).due = s.due := rfl
@[simp] theorem State.holdEvent_free (s : State) (e : HeldEvent) :
    (s.holdEvent e).free = s.free := rfl
@[simp] theorem State.holdEvent_pending (s : State) (e : HeldEvent) :
    (s.holdEvent e).pending = s.pending := rfl

/-! State.changeDock -/

@[simp] theorem State.changeDock_identity (s : State) :
    (s.changeDock).identity = s.identity := rfl
@[simp] theorem State.changeDock_resetHeld (s : State) :
    (s.changeDock).resetHeld = s.resetHeld := rfl
@[simp] theorem State.changeDock_inputs (s : State) :
    (s.changeDock).inputs = s.inputs := rfl
@[simp] theorem State.changeDock_cfg (s : State) :
    (s.changeDock).cfg = s.cfg := rfl
@[simp] theorem State.changeDock_line (s : State) :
    (s.changeDock).line = s.line := rfl
@[simp] theorem State.changeDock_timer (s : State) :
    (s.changeDock).timer = s.timer := rfl
@[simp] theorem State.changeDock_standing (s : State) :
    (s.changeDock).standing = s.standing := rfl
@[simp] theorem State.changeDock_view (s : State) :
    (s.changeDock).view = s.view := rfl
@[simp] theorem State.changeDock_store (s : State) :
    (s.changeDock).store = s.store := rfl
@[simp] theorem State.changeDock_limit (s : State) :
    (s.changeDock).limit = s.limit := rfl
@[simp] theorem State.changeDock_share (s : State) :
    (s.changeDock).share = s.share := rfl
@[simp] theorem State.changeDock_applyUnit (s : State) :
    (s.changeDock).applyUnit = s.applyUnit := rfl
@[simp] theorem State.changeDock_turn (s : State) :
    (s.changeDock).turn = s.turn := rfl
@[simp] theorem State.changeDock_seq (s : State) :
    (s.changeDock).seq = s.seq := rfl
@[simp] theorem State.changeDock_session (s : State) :
    (s.changeDock).session = s.session := rfl
@[simp] theorem State.changeDock_port (s : State) :
    (s.changeDock).port = s.port := rfl
@[simp] theorem State.changeDock_notices (s : State) :
    (s.changeDock).notices = s.notices := rfl
@[simp] theorem State.changeDock_due (s : State) :
    (s.changeDock).due = s.due := rfl
@[simp] theorem State.changeDock_free (s : State) :
    (s.changeDock).free = s.free := rfl
@[simp] theorem State.changeDock_pending (s : State) :
    (s.changeDock).pending = s.pending := rfl

/-! State.handOwnTurn -/

@[simp] theorem State.handOwnTurn_identity (s : State) :
    (s.handOwnTurn).identity = s.identity := rfl
@[simp] theorem State.handOwnTurn_resetHeld (s : State) :
    (s.handOwnTurn).resetHeld = s.resetHeld := rfl
@[simp] theorem State.handOwnTurn_inputs (s : State) :
    (s.handOwnTurn).inputs = s.inputs := rfl
@[simp] theorem State.handOwnTurn_cfg (s : State) :
    (s.handOwnTurn).cfg = s.cfg := rfl
@[simp] theorem State.handOwnTurn_qual (s : State) :
    (s.handOwnTurn).qual = s.qual := rfl
@[simp] theorem State.handOwnTurn_line (s : State) :
    (s.handOwnTurn).line = s.line := rfl
@[simp] theorem State.handOwnTurn_timer (s : State) :
    (s.handOwnTurn).timer = s.timer := rfl
@[simp] theorem State.handOwnTurn_standing (s : State) :
    (s.handOwnTurn).standing = s.standing := rfl
@[simp] theorem State.handOwnTurn_view (s : State) :
    (s.handOwnTurn).view = s.view := rfl
@[simp] theorem State.handOwnTurn_store (s : State) :
    (s.handOwnTurn).store = s.store := rfl
@[simp] theorem State.handOwnTurn_limit (s : State) :
    (s.handOwnTurn).limit = s.limit := rfl
@[simp] theorem State.handOwnTurn_share (s : State) :
    (s.handOwnTurn).share = s.share := rfl
@[simp] theorem State.handOwnTurn_applyUnit (s : State) :
    (s.handOwnTurn).applyUnit = s.applyUnit := rfl
@[simp] theorem State.handOwnTurn_port (s : State) :
    (s.handOwnTurn).port = s.port := rfl
@[simp] theorem State.handOwnTurn_free (s : State) :
    (s.handOwnTurn).free = s.free := rfl
@[simp] theorem State.handOwnTurn_pending (s : State) :
    (s.handOwnTurn).pending = s.pending := rfl

/-! State.mainConfirmed -/

@[simp] theorem State.mainConfirmed_identity (s : State) (w : Bool) :
    (s.mainConfirmed w).identity = s.identity := rfl
@[simp] theorem State.mainConfirmed_resetHeld (s : State) (w : Bool) :
    (s.mainConfirmed w).resetHeld = s.resetHeld := rfl
@[simp] theorem State.mainConfirmed_inputs (s : State) (w : Bool) :
    (s.mainConfirmed w).inputs = s.inputs := rfl
@[simp] theorem State.mainConfirmed_cfg (s : State) (w : Bool) :
    (s.mainConfirmed w).cfg = s.cfg := rfl
@[simp] theorem State.mainConfirmed_qual (s : State) (w : Bool) :
    (s.mainConfirmed w).qual = s.qual := rfl
@[simp] theorem State.mainConfirmed_line (s : State) (w : Bool) :
    (s.mainConfirmed w).line = s.line := rfl
@[simp] theorem State.mainConfirmed_timer (s : State) (w : Bool) :
    (s.mainConfirmed w).timer = s.timer := rfl
@[simp] theorem State.mainConfirmed_standing (s : State) (w : Bool) :
    (s.mainConfirmed w).standing = s.standing := rfl
@[simp] theorem State.mainConfirmed_view (s : State) (w : Bool) :
    (s.mainConfirmed w).view = s.view := rfl
@[simp] theorem State.mainConfirmed_store (s : State) (w : Bool) :
    (s.mainConfirmed w).store = s.store := rfl
@[simp] theorem State.mainConfirmed_limit (s : State) (w : Bool) :
    (s.mainConfirmed w).limit = s.limit := rfl
@[simp] theorem State.mainConfirmed_share (s : State) (w : Bool) :
    (s.mainConfirmed w).share = s.share := rfl
@[simp] theorem State.mainConfirmed_applyUnit (s : State) (w : Bool) :
    (s.mainConfirmed w).applyUnit = s.applyUnit := rfl
@[simp] theorem State.mainConfirmed_port (s : State) (w : Bool) :
    (s.mainConfirmed w).port = s.port := rfl
@[simp] theorem State.mainConfirmed_free (s : State) (w : Bool) :
    (s.mainConfirmed w).free = s.free := rfl
@[simp] theorem State.mainConfirmed_pending (s : State) (w : Bool) :
    (s.mainConfirmed w).pending = s.pending := rfl

/-! State.timerBoundary -/

@[simp] theorem State.timerBoundary_identity (s : State) :
    (s.timerBoundary).identity = s.identity := rfl
@[simp] theorem State.timerBoundary_resetHeld (s : State) :
    (s.timerBoundary).resetHeld = s.resetHeld := rfl
@[simp] theorem State.timerBoundary_inputs (s : State) :
    (s.timerBoundary).inputs = s.inputs := rfl
@[simp] theorem State.timerBoundary_cfg (s : State) :
    (s.timerBoundary).cfg = s.cfg := rfl
@[simp] theorem State.timerBoundary_qual (s : State) :
    (s.timerBoundary).qual = s.qual := rfl
@[simp] theorem State.timerBoundary_standing (s : State) :
    (s.timerBoundary).standing = s.standing := rfl
@[simp] theorem State.timerBoundary_view (s : State) :
    (s.timerBoundary).view = s.view := rfl
@[simp] theorem State.timerBoundary_store (s : State) :
    (s.timerBoundary).store = s.store := rfl
@[simp] theorem State.timerBoundary_limit (s : State) :
    (s.timerBoundary).limit = s.limit := rfl
@[simp] theorem State.timerBoundary_share (s : State) :
    (s.timerBoundary).share = s.share := rfl
@[simp] theorem State.timerBoundary_applyUnit (s : State) :
    (s.timerBoundary).applyUnit = s.applyUnit := rfl
@[simp] theorem State.timerBoundary_turn (s : State) :
    (s.timerBoundary).turn = s.turn := rfl
@[simp] theorem State.timerBoundary_session (s : State) :
    (s.timerBoundary).session = s.session := rfl
@[simp] theorem State.timerBoundary_port (s : State) :
    (s.timerBoundary).port = s.port := rfl
@[simp] theorem State.timerBoundary_notices (s : State) :
    (s.timerBoundary).notices = s.notices := rfl
@[simp] theorem State.timerBoundary_free (s : State) :
    (s.timerBoundary).free = s.free := rfl
@[simp] theorem State.timerBoundary_pending (s : State) :
    (s.timerBoundary).pending = s.pending := rfl

/-! State.configure -/

@[simp] theorem State.configure_identity (s : State) (c : Setup) (p i : Nat) :
    (s.configure c p i).identity = s.identity := rfl
@[simp] theorem State.configure_resetHeld (s : State) (c : Setup) (p i : Nat) :
    (s.configure c p i).resetHeld = s.resetHeld := rfl
@[simp] theorem State.configure_inputs (s : State) (c : Setup) (p i : Nat) :
    (s.configure c p i).inputs = s.inputs := rfl
@[simp] theorem State.configure_qual (s : State) (c : Setup) (p i : Nat) :
    (s.configure c p i).qual = s.qual := rfl
@[simp] theorem State.configure_line (s : State) (c : Setup) (p i : Nat) :
    (s.configure c p i).line = s.line := rfl
@[simp] theorem State.configure_view (s : State) (c : Setup) (p i : Nat) :
    (s.configure c p i).view = s.view := rfl
@[simp] theorem State.configure_store (s : State) (c : Setup) (p i : Nat) :
    (s.configure c p i).store = s.store := rfl
@[simp] theorem State.configure_limit (s : State) (c : Setup) (p i : Nat) :
    (s.configure c p i).limit = s.limit := rfl
@[simp] theorem State.configure_share (s : State) (c : Setup) (p i : Nat) :
    (s.configure c p i).share = s.share := rfl
@[simp] theorem State.configure_applyUnit (s : State) (c : Setup) (p i : Nat) :
    (s.configure c p i).applyUnit = s.applyUnit := rfl
@[simp] theorem State.configure_turn (s : State) (c : Setup) (p i : Nat) :
    (s.configure c p i).turn = s.turn := rfl
@[simp] theorem State.configure_seq (s : State) (c : Setup) (p i : Nat) :
    (s.configure c p i).seq = s.seq := rfl
@[simp] theorem State.configure_session (s : State) (c : Setup) (p i : Nat) :
    (s.configure c p i).session = s.session := rfl
@[simp] theorem State.configure_port (s : State) (c : Setup) (p i : Nat) :
    (s.configure c p i).port = s.port := rfl
@[simp] theorem State.configure_notices (s : State) (c : Setup) (p i : Nat) :
    (s.configure c p i).notices = s.notices := rfl
@[simp] theorem State.configure_due (s : State) (c : Setup) (p i : Nat) :
    (s.configure c p i).due = s.due := rfl
@[simp] theorem State.configure_free (s : State) (c : Setup) (p i : Nat) :
    (s.configure c p i).free = s.free := rfl
@[simp] theorem State.configure_pending (s : State) (c : Setup) (p i : Nat) :
    (s.configure c p i).pending = s.pending := rfl
/-! Notices -/

@[simp] theorem State.raise_notices (s : State) (k : NoticeKind) (p v : Option Nat) :
    (s.raise k p v).notices = s.notices.push { kind := k, stamp := s.timer.roundCounter, pad := p, value := v } :=
  rfl

/-! State.setSession, block by block -/

@[simp] theorem State.setSession_session_state (s : State) (n : SessionState) (c : Cause) :
    (s.setSession n c).session.state = n := rfl
@[simp] theorem State.setSession_session_record (s : State) (n : SessionState) (c : Cause) :
    (s.setSession n c).session.record = s.session.record := rfl
@[simp] theorem State.setSession_session_lastMeasured (s : State) (n : SessionState) (c : Cause) :
    (s.setSession n c).session.lastMeasured = s.session.lastMeasured := rfl
@[simp] theorem State.setSession_session_reportAge (s : State) (n : SessionState) (c : Cause) :
    (s.setSession n c).session.reportAge = s.session.reportAge := rfl
@[simp] theorem State.setSession_session_overdrawRun (s : State) (n : SessionState) (c : Cause) :
    (s.setSession n c).session.overdrawRun = if n = .connected then s.session.overdrawRun else 0 := rfl
@[simp] theorem State.setSession_session_held (s : State) (n : SessionState) (c : Cause) :
    (s.setSession n c).session.held =
      if n = .fault ∧ s.session.state ≠ .fault then [] else s.session.held := rfl
@[simp] theorem State.setSession_turn (s : State) (n : SessionState) (c : Cause) :
    (s.setSession n c).turn =
      { s.turn with
        intentAge := if n = .intent ∧ s.session.state ≠ .intent then 0 else s.turn.intentAge } := rfl
@[simp] theorem State.setSession_due (s : State) (n : SessionState) (c : Cause) :
    (s.setSession n c).due =
      { s.due with
        overdraw := if n = .connected then s.due.overdraw else none
        reportLost := if n = .connected then s.due.reportLost else none } := rfl
@[simp] theorem State.setSession_notices (s : State) (n : SessionState) (c : Cause) :
    (s.setSession n c).notices =
      if s.session.state = n then s.notices
      else s.notices.push
        { kind := .session, stamp := s.timer.roundCounter, pad := none,
          value := some (sessionNoticeValue n c) } := rfl

/-! The session's reactions -/

@[simp] theorem State.requestOpen_seq (s : State) (m : OpenMode) :
    (s.requestOpen m).seq = s.seq.requestOpen m := rfl
@[simp] theorem State.contactorsOpen_session_state (s : State) :
    s.contactorsOpen.session.state =
      if s.session.state = .stopping then s.restState else s.session.state := rfl
@[simp] theorem State.takeEnd_session_state (s : State) :
    s.takeEnd.session.state = endTarget s.session.state := rfl
@[simp] theorem State.takeEnd_seq (s : State) :
    s.takeEnd.seq =
      if endTarget s.session.state = .stopping ∧ s.session.state ≠ .stopping then s.seq.requestOpen .normal
      else s.seq := rfl
@[simp] theorem State.takeDockLoss_session_state (s : State) :
    s.takeDockLoss.session.state = dockLossTarget s.session.state := rfl
@[simp] theorem State.takeDockLoss_seq (s : State) :
    s.takeDockLoss.seq =
      if dockLossTarget s.session.state = .stopping then s.seq.requestOpen .forced else s.seq := rfl
@[simp] theorem State.takeDockLoss_free (s : State) : s.takeDockLoss.free = s.free + 1 := rfl
@[simp] theorem State.signalConflict_session_state (s : State) :
    s.signalConflict.session.state = conflictTarget s.session.state := rfl
@[simp] theorem State.signalConflict_seq (s : State) :
    s.signalConflict.seq = s.seq.requestOpen .forced := rfl
@[simp] theorem State.contactorFault_session_state (s : State) (c : Contactor) (code : Nat) :
    (s.contactorFault c code).session.state = .fault := rfl
@[simp] theorem State.contactorFault_seq (s : State) (c : Contactor) (code : Nat) :
    (s.contactorFault c code).seq = (s.seq.setConfirm c .failed).enterFaulted := rfl
@[simp] theorem State.enterConflict_standing (s : State) (i : Identity) :
    (s.enterConflict i).standing = s.standing.enter .conflict := rfl
@[simp] theorem State.enterConflict_session_state (s : State) (i : Identity) :
    (s.enterConflict i).session.state = conflictTarget s.session.state := rfl
@[simp] theorem State.enterConflict_seq (s : State) (i : Identity) :
    (s.enterConflict i).seq = s.seq.requestOpen .forced := rfl
@[simp] theorem State.enterResync_standing (s : State) :
    s.enterResync.standing = s.standing.enter .resync := rfl
@[simp] theorem State.enterResync_timer (s : State) :
    s.enterResync.timer =
      { s.timer with mode := .realign, misaligned := 0, silence := 0, target := none } := rfl
@[simp] theorem State.enterResync_notices (s : State) :
    s.enterResync.notices =
      s.notices.push
        { kind := .resync, stamp := s.timer.roundCounter, pad := s.standing.pad, value := none } := rfl

/-! The port -/

@[simp] theorem State.respond_port_txn (s : State) (f : List Byte) :
    (s.respond f).port.txn = s.port.txn := rfl
@[simp] theorem State.respond_port_assembly (s : State) (f : List Byte) :
    (s.respond f).port.assembly = s.port.assembly := rfl
@[simp] theorem State.respond_port_ready (s : State) (f : List Byte) :
    (s.respond f).port.ready = s.port.ready := rfl
@[simp] theorem State.respond_port_waiting (s : State) (f : List Byte) :
    (s.respond f).port.waiting = s.port.waiting := rfl
@[simp] theorem State.respond_port_response (s : State) (f : List Byte) :
    (s.respond f).port.response = if s.port.txn = .execute then some f else s.port.response := rfl
@[simp] theorem State.respond_port_resetCause (s : State) (f : List Byte) :
    (s.respond f).port.resetCause = s.port.resetCause := rfl
@[simp] theorem State.respond_port_dout (s : State) (f : List Byte) :
    (s.respond f).port.dout = s.port.dout := rfl
@[simp] theorem State.answerWaiting_port_txn (s : State) (f : List Byte) :
    (s.answerWaiting f).port.txn = s.port.txn := rfl
@[simp] theorem State.answerWaiting_port_assembly (s : State) (f : List Byte) :
    (s.answerWaiting f).port.assembly = s.port.assembly := rfl
@[simp] theorem State.answerWaiting_port_ready (s : State) (f : List Byte) :
    (s.answerWaiting f).port.ready = s.port.ready := rfl
@[simp] theorem State.answerWaiting_port_waiting (s : State) (f : List Byte) :
    (s.answerWaiting f).port.waiting = none := rfl
@[simp] theorem State.answerWaiting_port_resetCause (s : State) (f : List Byte) :
    (s.answerWaiting f).port.resetCause = s.port.resetCause := rfl
@[simp] theorem State.answerWaiting_port_dout (s : State) (f : List Byte) :
    (s.answerWaiting f).port.dout = s.port.dout := rfl
@[simp] theorem Port.clock_dout (p : Port) (b : Byte) : (p.clock b).dout = p.nextByte := rfl
@[simp] theorem Port.opened_dout (p : Port) : p.opened.dout = none := rfl
@[simp] theorem Port.closed_doutLevel (p : Port) : p.closed.doutLevel = none := rfl
@[simp] theorem State.wait_port (s : State) (c : WaitingCommand) :
    (s.wait c).port =
      { s.port with waiting := some { command := c, responseLost := s.port.txn != .execute } } := rfl

/-! The view store -/

@[simp] theorem State.endAccess_view (s : State) (es : List Entry) :
    (s.endAccess es).view = s.view.withEntries es := rfl
@[simp] theorem State.endAccess_store (s : State) (es : List Entry) :
    (s.endAccess es).store = s.store.release := rfl
@[simp] theorem State.waitForStore_store (s : State) (c : WaitingCommand) (a : Access) :
    (s.waitForStore c a).store = s.store.request a := rfl
@[simp] theorem View.withEntries_entries (v : View) (es : List Entry) : (v.withEntries es).entries = es := rfl
@[simp] theorem View.withEntries_held (v : View) (es : List Entry) : (v.withEntries es).held = heldOf es := rfl
@[simp] theorem View.withEntries_liveCount (v : View) (es : List Entry) :
    (v.withEntries es).liveCount = countOf es .live := rfl
@[simp] theorem View.withEntries_staleCount (v : View) (es : List Entry) :
    (v.withEntries es).staleCount = countOf es .stale := rfl
@[simp] theorem View.withEntries_heldCount (v : View) (es : List Entry) :
    (v.withEntries es).heldCount = countOf es .held := rfl
@[simp] theorem View.withEntries_adoptedCount (v : View) (es : List Entry) :
    (v.withEntries es).adoptedCount = countOf es .adopted := rfl
@[simp] theorem View.withEntries_cursor (v : View) (es : List Entry) : (v.withEntries es).cursor = v.cursor := rfl
@[simp] theorem View.withEntries_entry (v : View) (es : List Entry) (pad : Nat) :
    (v.withEntries es).entry pad = es.getD pad Entry.blank := rfl

/-! The line interface -/

@[simp] theorem Line.rxEnter_pending (l : Line) (st : RxState) : (l.rxEnter st).pending = l.pending := rfl
@[simp] theorem Line.rxEnter_sent (l : Line) (st : RxState) : (l.rxEnter st).sent = l.sent := rfl
@[simp] theorem Line.rxEnter_echo (l : Line) (st : RxState) : (l.rxEnter st).echo = l.echo := rfl
@[simp] theorem Line.rxEnter_errors (l : Line) (st : RxState) : (l.rxEnter st).errors = l.errors := rfl
@[simp] theorem Line.rxEnter_register (l : Line) (st : RxState) : (l.rxEnter st).register = l.register := rfl
@[simp] theorem Line.rxEnter_rx (l : Line) (st : RxState) :
    (l.rxEnter st).rx = { l.rx with state := st, bits := [] } := rfl
@[simp] theorem Line.countError_errors (l : Line) : l.countError.errors = min 65535 (l.errors + 1) := rfl
@[simp] theorem Line.countError_rx (l : Line) : l.countError.rx = l.rx := rfl
@[simp] theorem Line.countError_register (l : Line) : l.countError.register = l.register := rfl
@[simp] theorem Line.countError_echo (l : Line) : l.countError.echo = l.echo := rfl
@[simp] theorem Line.echoCleared_echo (l : Line) : l.echoCleared.echo = .notSent := rfl
@[simp] theorem Line.echoCleared_register (l : Line) : l.echoCleared.register = l.register := rfl
@[simp] theorem Line.echoCleared_rx (l : Line) : l.echoCleared.rx = l.rx := rfl
@[simp] theorem Line.echoCleared_errors (l : Line) : l.echoCleared.errors = l.errors := rfl

/-! The standing controller -/

@[simp] theorem StandingCtl.enter_state (st : StandingCtl) (n : Standing) : (st.enter n).state = n := rfl
@[simp] theorem StandingCtl.enter_pad (st : StandingCtl) (n : Standing) : (st.enter n).pad = st.pad := rfl
@[simp] theorem StandingCtl.enter_failures (st : StandingCtl) (n : Standing) : (st.enter n).failures = 0 := rfl
@[simp] theorem StandingCtl.enter_backoff (st : StandingCtl) (n : Standing) : (st.enter n).backoff = 0 := rfl
@[simp] theorem StandingCtl.enter_goodRun (st : StandingCtl) (n : Standing) : (st.enter n).goodRun = 0 := rfl
@[simp] theorem StandingCtl.enter_occupant (st : StandingCtl) (n : Standing) : (st.enter n).occupant = none := rfl
@[simp] theorem StandingCtl.enter_skipped (st : StandingCtl) (n : Standing) :
    (st.enter n).skipped = st.skipped := rfl
@[simp] theorem StandingCtl.enterListen_state (st : StandingCtl) : st.enterListen.state = .listen := rfl
@[simp] theorem StandingCtl.enterListen_pad (st : StandingCtl) : st.enterListen.pad = st.pad := rfl
@[simp] theorem StandingCtl.countSkipped_state (st : StandingCtl) : st.countSkipped.state = st.state := rfl
@[simp] theorem StandingCtl.countSkipped_pad (st : StandingCtl) : st.countSkipped.pad = st.pad := rfl

/-! The sequencer -/

@[simp] theorem Seq.requestOpen_preDrive (q : Seq) (m : OpenMode) : (q.requestOpen m).preDrive = q.preDrive := rfl
@[simp] theorem Seq.requestOpen_mainDrive (q : Seq) (m : OpenMode) : (q.requestOpen m).mainDrive = q.mainDrive := rfl
@[simp] theorem Seq.requestOpen_phase (q : Seq) (m : OpenMode) : (q.requestOpen m).phase = q.phase := rfl
@[simp] theorem Seq.requestOpen_preConfirm (q : Seq) (m : OpenMode) :
    (q.requestOpen m).preConfirm = q.preConfirm := rfl
@[simp] theorem Seq.requestOpen_mainConfirm (q : Seq) (m : OpenMode) :
    (q.requestOpen m).mainConfirm = q.mainConfirm := rfl
@[simp] theorem Seq.enterFaulted_phase (q : Seq) : q.enterFaulted.phase = .faulted := rfl
@[simp] theorem Seq.enterFaulted_openMode (q : Seq) : q.enterFaulted.openMode = .forced := rfl
@[simp] theorem Seq.enterFaulted_preDrive (q : Seq) : q.enterFaulted.preDrive = q.preDrive := rfl
@[simp] theorem Seq.enterFaulted_mainDrive (q : Seq) : q.enterFaulted.mainDrive = q.mainDrive := rfl
@[simp] theorem Seq.enterIdle_phase (q : Seq) : q.enterIdle.phase = .idle := rfl
@[simp] theorem Seq.enterIdle_openMode (q : Seq) : q.enterIdle.openMode = .none := rfl
@[simp] theorem Seq.enterIdle_preDrive (q : Seq) : q.enterIdle.preDrive = q.preDrive := rfl
@[simp] theorem Seq.enterIdle_mainDrive (q : Seq) : q.enterIdle.mainDrive = q.mainDrive := rfl
@[simp] theorem Seq.setConfirm_preDrive (q : Seq) (c : Contactor) (v : Confirm) :
    (q.setConfirm c v).preDrive = q.preDrive := by cases c <;> rfl
@[simp] theorem Seq.setConfirm_mainDrive (q : Seq) (c : Contactor) (v : Confirm) :
    (q.setConfirm c v).mainDrive = q.mainDrive := by cases c <;> rfl
@[simp] theorem Seq.setConfirm_phase (q : Seq) (c : Contactor) (v : Confirm) :
    (q.setConfirm c v).phase = q.phase := by cases c <;> rfl
@[simp] theorem Seq.setConfirm_openMode (q : Seq) (c : Contactor) (v : Confirm) :
    (q.setConfirm c v).openMode = q.openMode := by cases c <;> rfl
@[simp] theorem Seq.setConfirm_confirm (q : Seq) (c : Contactor) (v : Confirm) :
    (q.setConfirm c v).confirm c = v := by cases c <;> rfl

/-! The turn planner -/

@[simp] theorem Turn.bar_order (p : Turn) : p.bar.order = p.order := rfl
@[simp] theorem Turn.bar_given (p : Turn) : p.bar.given = p.given := rfl
@[simp] theorem Turn.bar_ownTurn (p : Turn) : p.bar.ownTurn = p.ownTurn := rfl
@[simp] theorem Turn.bar_intentAge (p : Turn) : p.bar.intentAge = p.intentAge := rfl
@[simp] theorem Turn.bar_ownCandidate (p : Turn) : p.bar.ownCandidate = p.ownCandidate := rfl
@[simp] theorem Turn.bar_deciding (p : Turn) : p.bar.deciding = p.deciding := rfl
@[simp] theorem Turn.bar_barred (p : Turn) : p.bar.barred = (p.barred || p.deciding) := rfl

end Sys2Proof.Machine
end

