-- ==== Sys2Proof/Laws/Ops.lean ====
section
/-! SUPPORT. For each shared operation, one lemma that says once everything it can do. -/

namespace Sys2Proof.Machine

/-! ### Taking a command -/

/-- A command that the part raises has its effect. -/
theorem State.act_taken {s : State} {raised : Bool} (effect : State → State) (held : s.resetHeld = false)
    (h : raised = true) : s.act raised effect = .next (effect s) := by
  simp [State.act, held, h]

/-- A command has its effect, where it is raised and no reset is held, or none at all. -/
theorem State.act_cases {s t : State} {raised : Bool} {effect : State → State}
    (h : s.act raised effect = .next t) :
    (s.resetHeld = false ∧ raised = true ∧ t = effect s)
      ∨ ((s.resetHeld = true ∨ raised = false) ∧ t = s) := by
  cases hh : s.resetHeld <;> cases raised <;> simp_all [State.act]

/-- The order of the checks of a complete frame (R177), and what each failure answers. -/
theorem State.takeFrame_cases (s : State) (lengthOk : List Byte → Bool) (needsSetup : Bool)
    (run : List Byte → State → State) :
    (s.port.ready = none ∧ s.takeFrame lengthOk needsSetup run = s)
      ∨ ∃ frame taken, s.port.ready = some frame ∧ taken = { s with port := { s.port with ready := none } }
        ∧ ((s.port.waiting.isSome = true
              ∧ s.takeFrame lengthOk needsSetup run = taken.refuse rspRefusedState)
          ∨ (s.port.waiting = none ∧ lengthOk (frame.drop 2) = false
              ∧ s.takeFrame lengthOk needsSetup run = taken.refuse rspRefusedFormat)
          ∨ (s.port.waiting = none ∧ lengthOk (frame.drop 2) = true ∧ needsSetup = true
              ∧ s.configured = false
              ∧ s.takeFrame lengthOk needsSetup run = taken.refuse rspRefusedState)
          ∨ (s.port.waiting = none ∧ lengthOk (frame.drop 2) = true
              ∧ (needsSetup = true → s.configured = true)
              ∧ s.takeFrame lengthOk needsSetup run = run (frame.drop 2) taken)) := by
  cases hr : s.port.ready with
  | none => left; simp [State.takeFrame, hr]
  | some frame =>
    right
    refine ⟨frame, _, rfl, rfl, ?_⟩
    cases hw : s.port.waiting <;> cases hl : lengthOk (frame.drop 2) <;> cases needsSetup
      <;> cases hc : s.configured <;> simp [State.takeFrame, hr, hw, hl, hc]

/-! ### Notices (R188, R189) -/

/-- A notice joins a queue that is not full, and is lost from a full one. -/
theorem NoticeQueue.push_cases (q : NoticeQueue) (n : Notice) :
    (q.queue.length < 16 ∧ (q.push n).queue = q.queue ++ [n] ∧ (q.push n).lost = q.lost
        ∧ (q.push n).attn = true)
      ∨ (16 ≤ q.queue.length ∧ (q.push n).queue = q.queue ∧ (q.push n).lost = true
        ∧ (q.push n).attn = q.attn) := by
  unfold NoticeQueue.push Config.maxNotices
  split
  · exact .inl ⟨‹_›, rfl, rfl, rfl⟩
  · exact .inr ⟨by omega, rfl, rfl, rfl⟩

/-- Raising one notice for each pad of a list is pushing their notices in turn. -/
theorem State.foldl_raise (s : State) (k : NoticeKind) (g : Nat → Option Nat) (pads : List Nat) :
    pads.foldl (fun s p => s.raise k (some p) (g p)) s =
      { s with
        notices :=
          (pads.map fun p => ({ kind := k, stamp := s.timer.roundCounter, pad := some p, value := g p }
            : Notice)).foldl NoticeQueue.push s.notices } := by
  induction pads generalizing s with
  | nil => rfl
  | cons p ps ih => rw [List.foldl_cons, ih]; rfl

/-! ### The view store arbiter (R68) -/

/-- A request takes the free store, or waits behind the others. -/
theorem Store.request_cases (st : Store) (a : Access) :
    (st.grant = none ∧ (st.request a).grant = some a ∧ (st.request a).waiting = st.waiting)
      ∨ (st.grant ≠ none ∧ (st.request a).grant = st.grant
        ∧ (st.request a).waiting = st.waiting ++ [a]) := by
  unfold Store.request
  split <;> simp_all

/-- The next access is one of those that wait. -/
theorem nextAccess_mem {waiting : List Access} {a : Access} (h : nextAccess waiting = some a) :
    a ∈ waiting := by
  unfold nextAccess at h
  split at h
  · cases h; exact List.mem_of_find?_eq_some ‹_›
  · split at h
    · cases h; simp_all
    · split at h
      · cases h; simp_all
      · exact List.mem_of_mem_head? h

/-- At the end of a grant the next waiting access holds the store; with none waiting the store is free. -/
theorem Store.release_cases (st : Store) :
    (∃ a ∈ st.waiting, nextAccess st.waiting = some a ∧ st.release.grant = some a
        ∧ st.release.waiting = st.waiting.erase a)
      ∨ (nextAccess st.waiting = none ∧ st.release.grant = none ∧ st.release.waiting = []) := by
  cases h : nextAccess st.waiting with
  | none => right; simp [Store.release, h]
  | some a => left; exact ⟨a, nextAccess_mem h, by simp [Store.release, h]⟩

/-! ### The session (09) -/

/-- A state that does not change raises no SESSION notice. -/
theorem State.setSession_same (s : State) (c : Cause) :
    (s.setSession s.session.state c).notices = s.notices ∧ (s.setSession s.session.state c).turn = s.turn
      ∧ (s.setSession s.session.state c).session.held = s.session.held := by
  refine ⟨by simp, ?_, ?_⟩
  · rw [State.setSession_turn, if_neg (by simp)]
  · rw [State.setSession_session_held, if_neg (by simp)]

/-- The states that END changes (R160). -/
theorem endTarget_cases (st : SessionState) :
    (st = .intent ∧ endTarget st = .released)
      ∨ ((st = .precharge ∨ st = .connected) ∧ endTarget st = .stopping)
      ∨ (st ≠ .intent ∧ st ≠ .precharge ∧ st ≠ .connected ∧ endTarget st = st) := by
  cases st <;> simp [endTarget]

/-- The states that a dock loss changes (R161). -/
theorem dockLossTarget_cases (st : SessionState) :
    ((st = .docked ∨ st = .intent ∨ st = .released) ∧ dockLossTarget st = .vacant)
      ∨ ((st = .precharge ∨ st = .connected) ∧ dockLossTarget st = .stopping)
      ∨ ((st = .vacant ∨ st = .stopping ∨ st = .fault) ∧ dockLossTarget st = st) := by
  cases st <;> simp [dockLossTarget]

/-- The states that the signal conflict changes (R162). -/
theorem conflictTarget_cases (st : SessionState) :
    (st = .intent ∧ conflictTarget st = .released)
      ∨ ((st = .precharge ∨ st = .connected) ∧ conflictTarget st = .stopping)
      ∨ (st ≠ .intent ∧ st ≠ .precharge ∧ st ≠ .connected ∧ conflictTarget st = st) := by
  cases st <;> simp [conflictTarget]

/-! ### The turn planner (08) -/

/-- The bar (R138) keeps a planner that has no decision outstanding, and shuts one that has. -/
theorem Turn.bar_cases (p : Turn) :
    (p.deciding = false ∧ p.bar = p) ∨ (p.deciding = true ∧ p.bar = { p with barred := true }) := by
  cases p with | mk _ _ _ _ _ deciding _ => cases deciding <;> simp [Turn.bar]

/-- A turn is handed over (R138) to a session in INTENT that no conflict or contactor fault has barred, and to no
other. -/
theorem State.handOwnTurn_cases (s : State) :
    (s.turn.ownTurn = true ∧ s.session.state = .intent ∧ s.turn.barred = false
        ∧ s.handOwnTurn.session.state = .precharge
        ∧ s.handOwnTurn.seq = { s.seq with phase := .turnTaken })
      ∨ (¬(s.turn.ownTurn = true ∧ s.session.state = .intent ∧ s.turn.barred = false)
        ∧ s.handOwnTurn.session.state = s.session.state ∧ s.handOwnTurn.seq = s.seq) := by
  by_cases h : s.turn.ownTurn = true ∧ s.session.state = .intent ∧ s.turn.barred = false
  · exact .inl ⟨h.1, h.2.1, h.2.2, by simp [State.handOwnTurn, h, State.setSession],
      by simp [State.handOwnTurn, h]⟩
  · exact .inr ⟨h, by simp [State.handOwnTurn, h, State.setSession], by simp [State.handOwnTurn, h]⟩

/-! ### The sequencer (08) -/

/-- The open mode after a request (R147): as it was at rest, or where NORMAL finds another one; otherwise the
one asked for. -/
theorem Seq.requestOpen_cases (q : Seq) (m : OpenMode) :
    (q.requestOpen m = q ∧ ((q.phase = .idle ∧ q.preDrive = false ∧ q.mainDrive = false)
        ∨ (m = .normal ∧ q.openMode ≠ .none)))
      ∨ (q.requestOpen m = { q with openMode := m }
        ∧ ¬(q.phase = .idle ∧ q.preDrive = false ∧ q.mainDrive = false)
        ∧ ¬(m = .normal ∧ q.openMode ≠ .none)) := by
  unfold Seq.requestOpen
  split
  · exact .inl ⟨rfl, .inl ‹_›⟩
  · split
    · exact .inl ⟨rfl, .inr ‹_›⟩
    · exact .inr ⟨rfl, ‹_›, ‹_›⟩

/-! ### The port (R174, R176) -/

/-- The bits of the last byte stand on CP_DOUT most significant first (R174). -/
theorem Port.doutBits_getElem? (p : Port) {b : Byte} (h : p.dout = some b) {i : Nat} (hi : i < 8) :
    p.doutBits[i]? = some (b.getLsbD (7 - i)) := by
  simp [Port.doutBits, h, hi]

/-- The response of a waiting command is ready, or lost with its transaction. -/
theorem State.answerWaiting_response (s : State) (w : PortWait) (f : List Byte)
    (h : s.port.waiting = some w) :
    (s.answerWaiting f).port.response = (if w.responseLost then s.port.response else some f)
      ∧ (s.answerWaiting f).port.readPos = if w.responseLost then s.port.readPos else 0 := by
  cases hw : w.responseLost <;> simp [State.answerWaiting, h, hw]

/-- A count that READ STATUS shows is the count, or 0 before SETUP (R182). -/
theorem State.shownCount_cases (s : State) (n : Nat) :
    (s.configured = true ∧ s.shownCount n = n) ∨ (s.configured = false ∧ s.shownCount n = 0) := by
  cases h : s.configured <;> simp [State.shownCount, h]

/-! ### The round timer (Chapter 2) -/

/-- One sample of a qualified input (R83, R140, R157). -/
theorem QInput.sample_cases (q : QInput) (level : Bool) :
    (level = q.level ∧ q.sample level = { q with run := 0 })
      ∨ (level ≠ q.level ∧ q.sample level = { q with run := q.run + 1 }) := by
  unfold QInput.sample
  split
  · exact .inl ⟨‹_›, rfl⟩
  · exact .inr ⟨‹_›, rfl⟩

/-- The candidate after a frame is the one before or the new one (R27). -/
theorem betterReference_cases (old : Option Reference) (new : Reference) :
    (betterReference old new = some new ∧ ∀ r, old = some r → new.pad < r.pad)
      ∨ ∃ r, old = some r ∧ r.pad ≤ new.pad ∧ betterReference old new = some r := by
  cases old with
  | none => exact .inl ⟨rfl, by simp⟩
  | some r =>
    by_cases h : new.pad < r.pad
    · exact .inl ⟨by simp [betterReference, h], by simp [h]⟩
    · exact .inr ⟨r, rfl, by omega, by simp [betterReference, h]⟩

/-- A boundary moves by no more than 40 us (R30). -/
theorem Timer.abs_correction_le (t : Timer) : |t.correction| ≤ 320 := by
  unfold Timer.correction Config.maxCorrectionUnits
  split
  · split
    · exact (by simpa using ‹_ ∧ _ ∧ _›.2.2)
    · simp
  · simp

/-- The target of a realignment is the first of the peers' round starts at or after the next boundary of
the old clock (R34). -/
theorem Timer.targetFor_spec (t : Timer) (pad : Nat) (start : Int) :
    t.oldBoundary ≤ t.targetFor pad start ∧ t.targetFor pad start < t.oldBoundary + 80000
      ∧ ∃ k : Int, t.targetFor pad start = start - 2000 * (pad : Int) + 80000 * k := by
  refine ⟨?_, ?_, -((start - 2000 * (pad : Int) - t.oldBoundary) / 80000), ?_⟩ <;>
    · simp only [Timer.targetFor, Config.slotUnits, Config.roundUnits]
      push_cast
      omega

/-- The silence of SEARCH shows 80 exactly from 80 slot periods after its entry (R32). -/
theorem Timer.searchSilence_lt_iff (t : Timer) :
    t.searchSilence < 80 ↔ t.nextPeriod < t.searchStart + 160000 := by
  simp only [Timer.searchSilence, Config.slotUnits]
  omega

/-! ### Bits and cells (11, section 11.1) -/

/-- The check register takes a string bit by bit (R4). -/
theorem crc16_append (bits more : List Bool) : crc16 (bits ++ more) = more.foldl crcStep (crc16 bits) := by
  simp [crc16]

/-- A field written in `width` bits has that many. -/
@[simp] theorem bitsOfNat_length (width n : Nat) : (bitsOfNat width n).length = width := by
  induction width with
  | zero => rfl
  | succ w ih => simp [bitsOfNat, ih]

/-- A burst's first bit is its most significant one. -/
theorem natOfBits_cons (b : Bool) (bits : List Bool) :
    natOfBits (b :: bits) = b.toNat * 2 ^ bits.length + natOfBits bits := by
  have key : ∀ (l : List Bool) (a : Nat),
      l.foldl (fun acc b => 2 * acc + b.toNat) a
        = a * 2 ^ l.length + l.foldl (fun acc b => 2 * acc + b.toNat) 0 := by
    intro l
    induction l with
    | nil => intro a; simp
    | cons c cs ih =>
      intro a
      rw [List.foldl_cons, List.foldl_cons, ih, ih (2 * 0 + c.toNat), List.length_cons, Nat.pow_succ]
      ring
  simpa [natOfBits] using key bits b.toNat

/-- Reading the bits of a number gives it back, modulo its width. -/
theorem natOfBits_bitsOfNat (width n : Nat) : natOfBits (bitsOfNat width n) = n % 2 ^ width := by
  induction width with
  | zero => simp [bitsOfNat, natOfBits, Nat.mod_one]
  | succ w ih =>
    rw [bitsOfNat, natOfBits_cons, ih, bitsOfNat_length, Nat.testBit_eq_decide_div_mod_eq, Nat.pow_succ,
      Nat.mod_mul]
    rcases Nat.mod_two_eq_zero_or_one (n / 2 ^ w) with h | h <;> simp [h, Nat.add_comm]

/-- A number read from bits fits their number. -/
theorem natOfBits_lt (bits : List Bool) : natOfBits bits < 2 ^ bits.length := by
  induction bits with
  | nil => simp [natOfBits]
  | cons b bits ih =>
    rw [natOfBits_cons, List.length_cons, Nat.pow_succ]
    cases b <;> simp <;> omega

/-- Bit `i` of a number read from bits is their bit `i` from the last. -/
theorem natOfBits_testBit (bits : List Bool) (i : Nat) (h : i < bits.length) :
    (natOfBits bits).testBit i = bits.getD (bits.length - 1 - i) false := by
  induction bits with
  | nil => simp at h
  | cons b bits ih =>
    rw [natOfBits_cons, Nat.mul_comm, Nat.testBit_two_pow_mul_add _ (natOfBits_lt bits)]
    rw [List.length_cons] at h ⊢
    by_cases hi : i < bits.length
    · obtain ⟨k, hk⟩ : ∃ k, bits.length - i = k + 1 := ⟨bits.length - i - 1, by omega⟩
      have e : bits.length + 1 - 1 - i = k + 1 := by omega
      have e2 : bits.length - 1 - i = k := by omega
      rw [if_pos hi, ih hi, e, e2, List.getD_cons_succ]
    · have e : i = bits.length := by omega
      subst e
      cases b <;> simp

/-- A cell carries its bit (R1). -/
@[simp] theorem bitOfCell_cellOfBit (b : Bool) : bitOfCell (cellOfBit b) = some b := by
  cases b <;> rfl

/-- A burst coded from bits is read back as those bits (R1). -/
@[simp] theorem bitsBeforeViolation_map_cellOfBit (bits : List Bool) :
    bitsBeforeViolation (bits.map cellOfBit) = bits := by
  induction bits with
  | nil => rfl
  | cons b bs ih => simp [bitsBeforeViolation, ih]

/-- A burst coded from bits has no violation (R1). -/
@[simp] theorem hasViolation_map_cellOfBit (bits : List Bool) :
    hasViolation (bits.map cellOfBit) = false := by
  simp [hasViolation]

/-! ### The view table (R57) -/

/-- Bit n of the held set is set exactly where pad n is HELD (R57, R192). -/
theorem heldOf_getLsbD (entries : List Entry) {pad : Nat} (h : pad < 36) :
    (heldOf entries).getLsbD pad = ((entries.getD pad Entry.blank).state == .held) := by
  rw [heldOf, BitVec.getLsbD_ofNat, natOfBits_testBit _ _ (by simp [Config.pads, h])]
  simp [Config.pads, h,
    show 36 - 1 - (36 - 1 - pad) = pad by omega, show 35 - pad < 36 by omega]

/-- The entry of a pad after one entry is replaced. -/
theorem getD_set_entry (entries : List Entry) (p q : Nat) (e : Entry) (h : p < entries.length) :
    (entries.set p e).getD q Entry.blank = if q = p then e else entries.getD q Entry.blank := by
  by_cases hq : q = p
  · subst hq; simp [List.getD_eq_getElem?_getD, h]
  · simp [List.getD_eq_getElem?_getD, hq, Ne.symm hq]

/-- The entry of a pad after every entry is rewritten. -/
theorem getD_mapIdx_entry (f : Nat → Entry → Entry) (entries : List Entry) (p : Nat)
    (h : p < entries.length) :
    (entries.mapIdx f).getD p Entry.blank = f p (entries.getD p Entry.blank) := by
  simp [List.getD_eq_getElem?_getD, h]

/-! ### The fill (R99 to R101) and the walk (R137) -/

/-- A share does not fall as the level rises (R99). -/
theorem FillMember.shareAt_mono (m : FillMember) {a b : Nat} (h : a ≤ b) : m.shareAt a ≤ m.shareAt b := by
  unfold FillMember.shareAt
  cases m.frozen with
  | some x => simp
  | none =>
    simp only [Option.getD_none]
    have : m.part.weight * a / 16 ≤ m.part.weight * b / 16 :=
      Nat.div_le_div_right (Nat.mul_le_mul_left _ h)
    omega

/-- A sum of shares does not fall as the level rises (R99). -/
theorem totalAt_mono (ms : List FillMember) {a b : Nat} (h : a ≤ b) : totalAt ms a ≤ totalAt ms b :=
  List.sum_le_sum fun m _ => m.shareAt_mono h

/-- A level below one that fits fits (R99). -/
theorem fits_anti (b : Budgets) (ms : List FillMember) {lo hi : Nat} (h : lo ≤ hi)
    (hf : fits b ms hi = true) : fits b ms lo = true := by
  simp only [fits, Bool.and_eq_true, decide_eq_true_eq, List.all_eq_true, List.mem_range] at hf ⊢
  exact ⟨(totalAt_mono ms h).trans hf.1, fun br hbr => (totalAt_mono _ h).trans (hf.2 br hbr)⟩

/-- A turn once given stays given down the walk. -/
theorem walkTurns_prefix (curtailed : Bool) (blocked : List Nat) (given cs : List Candidate) :
    given <+: walkTurns curtailed blocked given cs := by
  induction cs generalizing given with
  | nil => exact List.prefix_refl _
  | cons c cs ih =>
    unfold walkTurns
    split
    · exact (List.prefix_append given [c]).trans (ih _)
    · exact ih _

/-- Inserting a candidate adds it and no other. -/
theorem insertCandidate_perm (c : Candidate) (ds : List Candidate) :
    (insertCandidate c ds).Perm (c :: ds) := by
  induction ds with
  | nil => exact List.Perm.refl _
  | cons d ds ih =>
    unfold insertCandidate
    split
    · exact List.Perm.refl _
    · exact (ih.cons d).trans (List.Perm.swap c d ds)

/-- The order holds each candidate once. -/
theorem orderCandidates_perm (cs : List Candidate) : (orderCandidates cs).Perm cs := by
  induction cs with
  | nil => exact List.Perm.refl _
  | cons c cs ih => exact (insertCandidate_perm c _).trans (ih.cons c)

end Sys2Proof.Machine
end

