-- ==== Sys2Proof/Tests/Slice0.lean ====
section
/-! SUPPORT. The model's own tests: the smoke tests of WellFormed, the worked cases of the spec, and for each
statement with hypotheses a state that meets them. Each expected figure is the spec's; the section it stands in
is named. -/

namespace Sys2Proof.Machine.Tests

/-! ### Small states -/

/-- The station of the worked cases: pad 7, branch 0, identity 1805, ACTIVE, in RUNNING in slot period 5
(5.9, 7.8, 8.8). -/
def station : State :=
  { State.reset with
    identity := 1805
    cfg :=
      { branch := 0, branchLimit := 600, feederLimit := 1500, curtailLimit := 1000, chargerRating := 250,
        rampStep := 20, prechargeRounds := 10, openThreshold := 5, adoptionReserve := 100,
        curtailSamples := 3 }
    standing := { StandingCtl.powerOn with state := .active, pad := some 7 }
    timer :=
      { Timer.powerOn with mode := .running, slot := some 5, periodStart := 10000, nextPeriod := 12000 } }

/-- A station before SETUP. -/
def blank : State := { State.reset with identity := 1805 }

/-- The state after a command. -/
def after (c : Instr) (s : State) : State :=
  match exec c s with
  | .next t => t
  | .fault _ => s
  | .refused _ => s

/-- In a slot period of the running round. -/
def atSlot (s : State) (k : Nat) : State := { s with timer := { s.timer with slot := some k } }

/-- In a timer mode. -/
def inMode (s : State) (m : TimerMode) : State := { s with timer := { s.timer with mode := m } }

/-- In a line standing. -/
def stands (s : State) (st : Standing) : State := { s with standing := { s.standing with state := st } }

/-- In a session state. -/
def inSession (s : State) (st : SessionState) : State := { s with session := { s.session with state := st } }

/-- In a sequence phase with an open mode. -/
def inPhase (s : State) (p : Phase) (m : OpenMode) : State :=
  { s with seq := { s.seq with phase := p, openMode := m } }

/-- With a command frame complete in EXECUTE. -/
def framed (s : State) (code : Byte) (ps : List Byte) : State :=
  { s with
    port := { s.port with txn := .execute, ready := some (code :: BitVec.ofNat 8 ps.length :: ps) } }

/-- With a view table. -/
def viewing (s : State) (entries : List Entry) : State := { s with view := s.view.withEntries entries }

/-- With the view store granted. -/
def granted (s : State) (a : Access) : State := { s with store := { grant := some a, waiting := [] } }

/-- With a command waiting at the port. -/
def waits (s : State) (c : WaitingCommand) : State :=
  { s with port := { s.port with waiting := some { command := c, responseLost := false } } }

/-- A record of a vehicle. -/
def vehicle : Record :=
  { vehicle := 1, maxAccept := 300, floor := some 50, energyNeeded := 125, departure := some 240,
    vehicleClass := some .normal, delivered := 0, accumulator := 0 }

/-- With a session record. -/
def carrying (s : State) (r : Record) : State := { s with session := { s.session with record := some r } }

/-- A table of 36 entries, EMPTY but for some pads. -/
def table (known : List (Nat × Entry)) : List Entry :=
  (List.range 36).map fun p => ((known.find? fun k => k.1 == p).map Prod.snd).getD Entry.blank

/-- An entry with a claim of a pad. -/
def entryOf (pad : Nat) (st : EntryState) (heard : Bool) (age reserve : Option Nat) (c : Claim) : Entry :=
  { Entry.blank with
    state := st, heard := heard, age := age, reserve := reserve, claim := some { c with pad := pad } }

/-- A HELD entry with a reserve. -/
def heldEntry (pad reserve : Nat) : Entry :=
  entryOf pad .held false (some 12) (some reserve) { Claim.reset with draw := reserve }

/-! ### WellFormed: each check refuses an ill-formed term -/

theorem test_wellFormed_refuses_empty_reset_pulse :
    (Instr.powerOnReset (.rstLow 0)).wellFormed = false := by decide
theorem test_wellFormed_refuses_long_burst :
    (Instr.claimFrameEvaluated (List.replicate 201 { first := true, second := false }) .idle).wellFormed
      = false := by decide +kernel
theorem test_wellFormed_refuses_short_readBack :
    (Instr.ownFrameEnd (List.replicate 199 { first := true, second := false })).wellFormed = false := by
  decide +kernel
theorem test_wellFormed_refuses_late_setup : (Instr.setup 7 2320).wellFormed = false := by decide
theorem test_wellFormed_refuses_late_portReset : (Instr.portReset 2320).wellFormed = false := by decide
theorem test_wellFormed_refuses_late_frameStart : (Instr.frameStart 2320).wellFormed = false := by decide
theorem test_wellFormed_accepts_the_last_instant :
    (Instr.frameStart 2319).wellFormed = true ∧ (Instr.powerOnReset (.rstLow 1)).wellFormed = true := by decide

/-! ### Worked cases of the spec -/

/-- Table 9-4. -/
theorem test_weight_table_9_4 :
    recordWeight vehicle 300 = 11
      ∧ recordWeight { vehicle with departure := some 150 } 300 = 15
      ∧ recordWeight { vehicle with energyNeeded := 400, departure := some 900 } 250 = 5
      ∧ recordWeight
          { vehicle with energyNeeded := 400, departure := some 900, vehicleClass := some .urgent } 250 = 7
      ∧ recordWeight
          { vehicle with energyNeeded := 30, departure := some 60, vehicleClass := some .urgent } 300 = 15
      ∧ recordWeight { vehicle with energyNeeded := 200, departure := none } 300 = 2
      ∧ recordWeight { vehicle with energyNeeded := 9999, departure := some 65535 } 1 = 15 := by decide

/-- The participants of section 6.8, with pad 12's floor. -/
def twoBranches (floor12 : Nat) : List Participant :=
  [{ pad := 3, branch := 0, request := 400, floor := 50, weight := 12 },
    { pad := 4, branch := 0, request := 300, floor := 50, weight := 6 },
    { pad := 7, branch := 0, request := 50, floor := 50, weight := 9 },
    { pad := 12, branch := 1, request := 470, floor := floor12, weight := 3 },
    { pad := 15, branch := 1, request := 400, floor := 80, weight := 15 }]

/-- The budgets of section 6.8. -/
def twoBudgets : Budgets := { feeder := 1100, branches := [560, 740, 16000, 16000, 16000, 16000] }

/-- Table 6-4. -/
theorem test_shares_table_6_4 :
    (resultRows twoBudgets (twoBranches 100)).map ResultRow.share = [340, 170, 50, 140, 400]
      ∧ (fillsOf twoBudgets (twoBranches 100)).level = 751
      ∧ (fillsOf twoBudgets (twoBranches 100)).count = 1 := by decide +kernel

/-- Table 6-6. -/
theorem test_shares_table_6_6 :
    (resultRows twoBudgets (twoBranches 150)).map ResultRow.share = [340, 170, 50, 0, 400]
      ∧ (fillsOf twoBudgets (twoBranches 150)).level = 16383
      ∧ (fillsOf twoBudgets (twoBranches 150)).count = 2 := by decide +kernel

/-- The participants of section 6.10. -/
def equalWeights : List Participant :=
  [{ pad := 2, branch := 2, request := 200, floor := 60, weight := 4 },
    { pad := 5, branch := 2, request := 200, floor := 60, weight := 4 },
    { pad := 8, branch := 2, request := 100, floor := 0, weight := 2 }]

/-- Table 6-8. -/
theorem test_shares_table_6_8 :
    (resultRows { feeder := 101, branches := [0, 0, 500, 0, 0, 0] } equalWeights).map
        (fun r => (r.share, r.disposition)) = [(67, .filled), (0, .excluded), (33, .filled)]
      ∧ (fillsOf { feeder := 101, branches := [0, 0, 500, 0, 0, 0] } equalWeights).level = 271 := by
  decide +kernel

/-- Section 6.11: the order of exclusion, with ten fills and the last one empty. -/
theorem test_ten_fills_6_11 :
    let ps : List Participant :=
      [(1, 3), (2, 5), (3, 3), (5, 15), (6, 8), (8, 2), (10, 2), (11, 11), (14, 5), (16, 13), (18, 3),
        (19, 8)].map fun p => { pad := p.1, branch := 0, request := 200, floor := 20, weight := p.2 }
    let out := fillsOf { feeder := 0, branches := List.replicate 6 16000 } ps
    out.excluded = [10, 8, 18, 3, 1, 14, 2, 19, 5, 6, 11, 16] ∧ out.count = 10 ∧ out.level = 0 := by
  decide +kernel

/-- The claims of Table 5-2: branch, kind, draw, commit, and the three limits. -/
def limitClaim (branch : Nat) (kind : Kind) (draw commit b f c : Nat) (flag : Bool) : Claim :=
  { Claim.reset with
    branch := branch, kind := kind, draw := draw, commit := commit, branchLimit := b, feederLimit := f,
    curtailLimit := c, curtailFlag := flag }

/-- The snapshot of Table 5-2. -/
def limitSnapshot : Snapshot :=
  { entries := table
      [(3, entryOf 3 .live true none none (limitClaim 0 .active 200 210 650 1500 1000 true)),
        (4, entryOf 4 .live true none none (limitClaim 0 .waiting 0 0 600 1400 1100 true)),
        (9, entryOf 9 .held false none (some 40) (limitClaim 0 .active 40 35 700 1200 1000 false)),
        (12, { entryOf 12 .live true none none (limitClaim 1 .active 160 170 800 1500 1200 true) with
          excess := some 30 }),
        (15, entryOf 15 .stale false none (some 120) (limitClaim 2 .active 120 110 500 1500 1000 false)),
        (20, entryOf 20 .live true none none (limitClaim 1 .stopping 60 0 800 1500 900 true)),
        (22, Entry.adoptedWith 100)]
    own := { Claim.reset with draw := 48, commit := 50 }
    echo := .notSent }

/-- Table 5-4: the budgets, and the branch limits before them. -/
theorem test_budgets_table_5_4 :
    let l := { Limit.powerOn with ownCurtail := true }.work station.cfg limitSnapshot
    l.feeder = 900 ∧ l.branches = [600, 800, 500, 16000, 16000, 16000] ∧ l.feederBudget = 500
      ∧ l.branchBudgets = [410, 610, 280, 15900, 15900, 15900] := by decide +kernel

/-- Table 7-2, row r+2: a good echo, commit 70, share 90, previous setpoint 50. -/
theorem test_apply_table_7_2 :
    let s := { station with
      due := { Due.nothing with apply := true }
      line := { Line.powerOn with echo := .good }
      applyUnit := { ApplyUnit.powerOn with applied := 50, lastCommit := 70, lastEchoed := 50, grant := 70 }
      share := { Share.powerOn with
        published := { Published.powerOn with ownShare := 90, ownParticipant := true } } }
    let a := (after .applyPoint s).applyUnit
    a.applied = 70 ∧ a.grant = 90 ∧ a.lastEchoed = 70 ∧ a.spchg = true := by decide

/-- Table 7-3, round m: a failed echo holds the setpoint. -/
theorem test_apply_table_7_3 :
    let s := { station with
      due := { Due.nothing with apply := true }
      line := { Line.powerOn with echo := .failed }
      applyUnit := { ApplyUnit.powerOn with applied := 90, lastCommit := 110, lastEchoed := 90, grant := 110 }
      share := { Share.powerOn with
        published := { Published.powerOn with ownShare := 120, ownParticipant := true } } }
    let a := (after .applyPoint s).applyUnit
    a.applied = 90 ∧ a.grant = 120 ∧ a.lastEchoed = 90 ∧ a.spchg = false := by decide

/-- Tables 8-3 and 8-4, round w. -/
theorem test_turns_table_8_4 :
    let cs : List Candidate :=
      [(3, 0, 4), (7, 0, 4), (11, 1, 9), (14, 2, 2), (16, 1, 9), (25, 3, 6)].map fun c =>
        { pad := c.1, branch := c.2.1, age := c.2.2 }
    (orderCandidates cs).map Candidate.pad = [11, 16, 25, 3, 7, 14]
      ∧ (walkTurns false [2] [] (orderCandidates cs)).map Candidate.pad = [11, 25] := by decide

/-- Table 9-5, round j+1. -/
theorem test_energy_table_9_5 :
    let r := { vehicle with accumulator := 35750, energyNeeded := 12, delivered := 40 }.integrate 260
    r.accumulator = 10 ∧ r.energyNeeded = 11 ∧ r.delivered = 41 := by decide

/-- The view of section 10.10. -/
def readSnapshot : State :=
  waits (granted
    (viewing station (table
      ([31, 32, 3, 5].map (fun p => (p, entryOf p .live false (some 0) none Claim.reset))
        ++ [(0, entryOf 0 .stale false (some 4) (some 0) Claim.reset), (2, heldEntry 2 40)])))
    .readView) (.readView (some 30) 6 true)

/-- Section 10.10, with pads 4, 6 and on EMPTY: six records, and the cursor at pad 6. -/
theorem test_readView_10_10 :
    let t := after .readViewAccess readSnapshot
    t.view.cursor = 6
      ∧ (t.port.response.map fun r => (List.range 6).map fun i => (r.getD (3 + 30 * i) 0).toNat)
        = some [31, 32, 0, 2, 3, 5] := by decide +kernel

/-- The view and the ranges of section 4.12. -/
def releaseState : State :=
  waits (granted
    (viewing station (table
      [(20, Entry.adoptedWith 100), (22, heldEntry 22 60),
        (23, entryOf 23 .stale false (some 4) (some 0) Claim.reset), (9, heldEntry 9 40)]))
    .releaseHeld) (.releaseHeld [(5, 3), (20, 4), (9, 1)])

/-- Table 4-4, RELEASE HELD granted first. -/
theorem test_releaseHeld_4_12 :
    let t := after .releaseHeldAccess releaseState
    t.port.response = some [0x82, 2, 23, 2] ∧ (t.view.entry 22).state = .empty
      ∧ (t.view.entry 9).state = .held
      ∧ t.notices.queue.map (fun n => (n.pad, n.value)) = [(some 20, some 100), (some 22, some 60)] := by
  decide +kernel

/-- R171, R170, R118 at the load of Table 7-2, row r. -/
theorem test_load_table_7_2 :
    let s := carrying (inSession { station with due := { Due.nothing with ownSlot := true } } .connected) vehicle
    let c := (after .ownSlotStart s).line.pending.claim
    c.request = 50 ∧ c.floor = 50 ∧ c.commit = 0 ∧ c.draw = 0 ∧ c.kind = .active := by decide +kernel

/-- R4, by hand: from FFFFH a 1 shifts a 0 in, and a 0 shifts and subtracts 1021H. -/
theorem test_crc_step : crc16 [true] = 0xFFFE ∧ crc16 [false] = 0xEFDF := by decide

/-- R32: SEARCH counts the slot periods since its entry, here 1.5 periods before the second period start. -/
theorem test_search_silence_from_entry :
    let s := inMode { blank with timer := { blank.timer with searchStart := 1000, nextPeriod := 2000 } } .search
    let t := after (.periodStart true true true true) s
    t.timer.silence = 0 ∧ (after (.periodStart true true true true) t).timer.silence = 1 := by decide

/-- R182: before SETUP READ STATUS shows the line error count 0, and the count itself after it. -/
theorem test_status_before_setup :
    let counted : State → State := fun s => framed { s with line := { s.line with errors := 258 } } 0x10 []
    ((after .readStatus (counted blank)).port.response.map fun l => (l.drop 9).take 2) = some [0, 0]
      ∧ ((after .readStatus (counted station)).port.response.map fun l => (l.drop 9).take 2)
        = some [1, 2] := by decide

/-- R176: WAIT bytes are 00H and a spent transaction gives FFH. -/
theorem test_bytes_wait_and_spent :
    (after (.byteClocked 0x55) { station with port := { Port.powerOn with txn := .execute } }).port.dout = some 0
      ∧ (after (.byteClocked 0x55) { station with port := { Port.powerOn with txn := .spent } }).port.dout
        = some 0xFF := by decide

/-- R179: a power of 1024 kW is taken as 1023 kW, with the mask naming it. -/
theorem test_report_clamps :
    let t := after .report (framed station 0x02 [4, 0])
    t.session.lastMeasured = 1023 ∧ t.port.response = some [0x81, 4, 0, 1, 0x03, 0xFF] := by decide

/-- R178, R38: straps of 36 refuse a SETUP, and leave the station UNCONFIGURED. -/
theorem test_setup_refuses_straps_36 :
    let t := after (.setup 36 0) (framed blank 0x01 (List.replicate 15 0))
    t.standing.state = .unconfigured ∧ t.port.response = some [0xC1, 0] := by decide

/-- The claim of pad 3 that the receiver tests take. -/
def peerClaim : Claim :=
  { Claim.reset with pad := 3, branch := 1, kind := .active, identity := 77, request := 400, floor := 50,
                     weight := 12, draw := 200, commit := 210, branchLimit := 800, feederLimit := 1500,
                     curtailLimit := 1200, heldMask := 5 }

/-- A half with the claim and its check field. -/
def half (c : Claim) : Half := { claim := c, check := crc16 (claimBits c) }

/-- A station that receives a burst which began at an instant. -/
def receives (s : State) (start : Int) : State :=
  { s with line := { s.line with rx := { state := .preamble, bits := [], start := start } } }

/-- The 192 data bits of the claim of pad 3 with a field of its content overwritten, and the check of the
result. -/
def overwritten (offset width value : Nat) : List Bool :=
  let content := claimBits peerClaim
  let bits := content.take offset ++ bitsOfNat width value ++ content.drop (offset + width)
  bits ++ bitsOfNat 16 (crc16 bits).toNat

/-- R5, Table 11-2: the largest legal pad, branch and kind, and the first illegal code of each. -/
theorem test_frame_codes :
    [(0, 6, 35), (6, 3, 5), (9, 4, 1), (9, 4, 5)].map (fun f => frameValid (overwritten f.1 f.2.1 f.2.2))
        = [true, true, true, true]
      ∧ [(0, 6, 36), (0, 6, 63), (6, 3, 6), (6, 3, 7), (9, 4, 0), (9, 4, 6), (9, 4, 15)].map
        (fun f => frameValid (overwritten f.1 f.2.1 f.2.2)) = List.replicate 7 false := by
  decide +kernel

/-- R57, R192: the HELD pads 0 and 35 are the lowest and the highest bit of the held set. -/
theorem test_held_set_bits :
    heldOf (table [(0, heldEntry 0 40), (35, heldEntry 35 40), (8, Entry.adoptedWith 100)]) = 0x800000001
      ∧ countOf (table [(0, heldEntry 0 40), (35, heldEntry 35 40)]) .held = 2 := by
  decide +kernel

/-- A station whose round followed a boundary. -/
def bounded (s : State) (boundary : Int) : State :=
  { s with timer := { s.timer with lastBoundary := some boundary } }

/-- R5, R8: the frame of pad 3 at its slot reaches the receive register, and asks for the view store. -/
theorem test_frame_is_received :
    let t := after (.claimFrameEvaluated (frameCells (half peerClaim)) .running) (receives station 6000)
    t.line.register = some peerClaim ∧ t.store.grant = some .claimWrite ∧ t.line.errors = 0 := by
  decide +kernel

/-- R6: the same claim with another check field is counted and reaches no block. -/
theorem test_bad_frame_is_counted :
    let cells := frameCells { claim := peerClaim, check := crc16 (claimBits peerClaim) + 1 }
    let t := after (.claimFrameEvaluated cells .running) (receives station 6000)
    t.line.register = none ∧ t.line.errors = 1 ∧ t.line.rx.state = .drain := by
  decide +kernel

/-- R1, R3: during an own frame PL_TXD carries the 200 cells of the preamble and of the claim just loaded. -/
theorem test_own_frame_on_txd :
    let t := after .ownSlotStart { station with due := { Due.nothing with ownSlot := true } }
    t.outputs.plTxd = .frame (frameCells t.line.pending) ∧ (frameCells t.line.pending).length = 200
      ∧ t.line.pending.claim.pad = 7 := by
  decide +kernel

/-- A turn decision between a conflict and a DOCK that has brought the session back to INTENT. -/
def afterConflict (barred : Bool) : State :=
  let s := inSession station .intent
  let own : Candidate := { pad := 7, branch := 0, age := 5 }
  { s with
    turn := { Turn.powerOn with deciding := true, ownCandidate := some own, barred := barred }
    share := { Share.powerOn with snapshot := some { entries := table [], own := Claim.reset, echo := .notSent } } }

/-- R138, R162: a conflict after the compute point bars the turn, a DOCK back to INTENT included. -/
theorem test_conflict_bars_the_turn :
    (after .turnDecision (afterConflict false)).session.state = .precharge
      ∧ (after .turnDecision (afterConflict true)).session.state = .intent
      ∧ (after .turnDecision (afterConflict true)).seq.phase = .idle
      ∧ ((afterConflict false).enterConflict 9).turn.barred = true := by
  decide +kernel

/-- R70: the frame receiver goes before the sweep and the port, but behind a snapshot requested before it. -/
theorem test_arbiter_order :
    ({ grant := some .sweep, waiting := [.readView, .sweep, .claimWrite] } : Store).release.grant
        = some .claimWrite
      ∧ ({ grant := some .sweep, waiting := [.snapshot, .claimWrite] } : Store).release.grant
        = some .snapshot := by decide

/-! ### Hypotheses: for each statement that has some, a state that meets them, clause by clause -/

theorem witness_StepRunsTheFrontCommand :
    ({ station with pending := [.lineIdle] } : State).pending = [.lineIdle] ∧ station.pending = [] := by
  decide

theorem witness_PowerOnResetSetsEveryBlock :
    (ResetCondition.vddLow = .vddLow) ∧ (∃ units, ResetCondition.rstLow 16 = .rstLow units ∧ 16 ≤ units)
      ∧ 15 < 16 := ⟨rfl, ⟨16, rfl, by decide⟩, by decide⟩

/-- With power-on reset held. -/
def heldInReset : State := { blank with resetHeld := true }

theorem witness_ResetEndsWhenBothConditionsClear :
    heldInReset.resetHeld = true ∧ (∀ cause, Instr.lineIdle ≠ .powerOnReset cause)
      ∧ ∀ rstN vddOk sel, Instr.lineIdle ≠ .resetEnd rstN vddOk sel := by
  exact ⟨rfl, fun _ h => (nomatch h), fun _ _ _ h => (nomatch h)⟩

theorem witness_PeriodStartAdvancesSlotAndSamples :
    station.resetHeld = false ∧ station.configured = true
      ∧ (∀ k ∈ [0, 35, 36, 37, 38], (atSlot station k).canPeriodStart = true
          ∧ (atSlot station k).timer.roundRunning = true)
      ∧ ({ station with timer := { station.timer with slot := none } } : State).canPeriodStart = true
      ∧ blank.canPeriodStart = true ∧ blank.configured = false ∧ blank.timer.roundRunning = false
      ∧ (inMode { station with timer := { station.timer with slot := none } } .search).canPeriodStart = true
      ∧ (inMode station .realign).canPeriodStart = true ∧ (inMode station .realign).timer.target = none := by
  decide

/-- With the run of CURT at Q. -/
def curtRun (level : Bool) : State :=
  { station with qual := { station.qual with curtail := { level := level, run := 3 } } }

theorem witness_QualifiedCurtailChangeSetsTheMemory :
    (curtRun true).resetHeld = false ∧ (curtRun true).configured = true ∧ 0 < (curtRun true).qual.curtail.run
      ∧ (curtRun true).cfg.curtailSamples ≤ (curtRun true).qual.curtail.run
      ∧ (curtRun false).cfg.curtailSamples ≤ (curtRun false).qual.curtail.run
      ∧ (curtRun true).qual.curtail.level = true ∧ (curtRun false).qual.curtail.level = false := by decide

/-- With both feedbacks at levels, their runs at eight. -/
def fbRun (s : State) (pre main : Bool) : State :=
  { s with qual := { s.qual with preFb := { level := pre, run := 8 }, mainFb := { level := main, run := 8 } } }

/-- With drives and confirm states. -/
def driven (s : State) (pre main : Bool) (pc mc : Confirm) : State :=
  { s with seq := { s.seq with preDrive := pre, mainDrive := main, preConfirm := pc, mainConfirm := mc } }

theorem witness_QualifiedFeedbackConfirmsOrFaults :
    (∀ c ∈ [Contactor.pre, .main], 8 ≤ (fbRun station false false).feedbackRun c)
      ∧ (fbRun station false false).resetHeld = false ∧ (fbRun blank false false).configured = false
      ∧ (let closing := driven (inPhase (inSession (fbRun station true false) .precharge) .mainClosing .none)
            true true .agreed (.awaiting 1);
          closing.configured = true ∧ (!closing.feedback .main) = closing.seq.drive .main
            ∧ closing.seq.phase = .mainClosing ∧ closing.seq.openMode = .none
            ∧ closing.seq.mainConfirm = .awaiting 1 ∧ closing.session.state = .precharge)
      ∧ (let opening := driven (inPhase (inSession (fbRun station true false) .stopping) .opening .normal)
            false false (.awaiting 0) .agreed;
          (!opening.feedback .pre) = opening.seq.drive .pre ∧ opening.seq.phase = .opening
            ∧ opening.seq.mainConfirm = .agreed ∧ opening.session.state = .stopping)
      ∧ (∀ m ∈ [OpenMode.normal, .forced],
          let stopped := driven (inPhase (inSession (fbRun station true false) .stopping) .mainClosing m)
            true true .agreed (.awaiting 1)
          (!stopped.feedback .main) = stopped.seq.drive .main ∧ stopped.seq.openMode ≠ .none
            ∧ stopped.seq.phase ≠ .opening)
      ∧ (∀ p ∈ [(true, true), (false, false)],
          (!(driven (fbRun station p.1 p.2) p.1 p.2 .agreed .agreed).feedback .pre) ≠ p.1
            ∧ (driven (fbRun station p.1 p.2) p.1 p.2 .agreed .agreed).seq.confirm .pre = .agreed)
      ∧ (let runs := driven (inPhase (inSession (fbRun station true true) .connected) .preRelease .none)
            false true (.awaiting 1) .agreed;
          (!runs.feedback .pre) = runs.seq.drive .pre ∧ runs.session.state = .connected)
      ∧ (driven (fbRun station true true) true true .failed .failed).seq.confirm .main ≠ .agreed := by decide

/-- With the run of DOCK_SNS at sixteen. -/
def dockRun (s : State) (level : Bool) : State :=
  { s with qual := { s.qual with dock := { level := level, run := 16 } } }

theorem witness_DockInputActsOnTheSession :
    (dockRun station false).resetHeld = false ∧ 16 ≤ (dockRun station false).qual.dock.run
      ∧ (dockRun station false).qual.dock.level = false ∧ (dockRun station true).qual.dock.level = true
      ∧ (dockRun station false).configured = true ∧ (dockRun blank true).configured = false
      ∧ (dockRun station true).session.state = .vacant
      ∧ (dockRun (carrying (inSession station .connected) vehicle) true).session.record = some vehicle
      ∧ (inPhase station .on .none).seq.phase ≠ .idle
      ∧ (let deciding := { dockRun station true with
            turn := { Turn.powerOn with
              deciding := true, ownCandidate := some { pad := 7, branch := 0, age := 4 } } };
          deciding.turn.deciding = true ∧ deciding.turn.ownCandidate.isSome = true)
      ∧ (inSession (dockRun station true) .docked).session.state = .docked
      ∧ (dockRun station true).session.record = none := by decide

/-- Cells of no value: a violation. -/
def flat : LineCell := { first := true, second := true }

theorem witness_ReceiverTakesBurstsAndCountsInvalidOnes :
    station.resetHeld = false ∧ station.line.rx.state = .idle
      ∧ ({ station with line := station.line.rxEnter .drain } : State).line.rx.state = .drain
      ∧ (let s := receives station 6000;
          s.receiving [flat] ∧ (s.burstBits [flat]).length < 8 ∧ hasViolation [flat] = true
            ∧ s.receiving (List.replicate 8 (cellOfBit true))
            ∧ (s.burstBits (List.replicate 8 (cellOfBit true))).take 8
              ≠ [true, false, true, false, true, false, true, true]
            ∧ s.receiving ((frameCells (half peerClaim)).take 199)
            ∧ (s.burstBits ((frameCells (half peerClaim)).take 199)).length = 199
            ∧ s.receiving (frameCells { claim := peerClaim, check := crc16 (claimBits peerClaim) + 1 })
            ∧ frameValid (((s.burstBits (frameCells { claim := peerClaim, check := crc16 (claimBits peerClaim) + 1
                })).drop 8).take 192) = false
            ∧ s.receiving ((frameCells (half peerClaim)).take 7)
            ∧ hasViolation ((frameCells (half peerClaim)).take 7) = false
            ∧ (s.burstBits ((frameCells (half peerClaim)).take 7)).length = 7
            ∧ hasViolation ((frameCells (half peerClaim)).take 199) = false) := by
  decide +kernel

theorem witness_ValidFrameOfAPeerIsHandedOn :
    (receives station 6000).completes (frameCells (half peerClaim)) (halfBits (half peerClaim))
      ∧ frameValid (halfBits (half peerClaim)) = true
      ∧ some (claimOfBits (halfBits (half peerClaim))).pad ≠ station.standing.pad
      ∧ (receives blank 0).completes (frameCells (half peerClaim)) (halfBits (half peerClaim))
      ∧ blank.configured = false
      ∧ (∀ start ∈ [(0 : Int), 71999, 72000], (receives station start).completes (frameCells (half peerClaim))
          (halfBits (half peerClaim)))
      ∧ station.timer.mode = .running ∧ station.timer.roundStart = 0
      ∧ (let s := bounded (receives station (-1)) 0;
          s.completes (frameCells (half peerClaim)) (halfBits (half peerClaim))
            ∧ s.line.rx.start < s.timer.roundStart ∧ s.timer.lastBoundary = some 0)
      ∧ (∀ m ∈ [TimerMode.search, .realign], (receives (inMode station m) 6000).completes
          (frameCells (half peerClaim)) (halfBits (half peerClaim)))
      ∧ station.timer.target = none
      ∧ ({ station with timer := { station.timer with mode := .realign, target := some 90000 } } : State).timer.target
        ≠ none := by
  decide +kernel

/-- A claim for the own pad with a foreign identity. -/
def foreignClaim : Claim := { peerClaim with pad := 7 }

theorem witness_ForeignClaimForTheOwnPadIsAConflict :
    (receives station 14000).completes (frameCells (half foreignClaim)) (halfBits (half foreignClaim))
      ∧ frameValid (halfBits (half foreignClaim)) = true ∧ station.configured = true
      ∧ some (claimOfBits (halfBits (half foreignClaim))).pad = station.standing.pad
      ∧ station.timer.mode = .running ∧ station.timer.roundStart ≤ 14000 ∧ (14000 : Int) < 72000
      ∧ (claimOfBits (halfBits (half foreignClaim))).identity ≠ station.identity
      ∧ (claimOfBits (halfBits (half { foreignClaim with identity := 1805 }))).identity = station.identity
      ∧ (∀ st ∈ [Standing.active, .backoff, .isolated], (stands station st).standing.state.transmitting = true)
      ∧ (stands station .listen).standing.state = .listen
      ∧ (stands station .conflict).standing.state.transmitting = false
      ∧ (∀ p ∈ [(TimerMode.search, Standing.acquire), (.realign, .resync)],
          (receives (inMode (stands station p.2) p.1) 14000).completes (frameCells (half foreignClaim))
            (halfBits (half foreignClaim)))
      ∧ (∀ start ∈ [(-1 : Int), 71999, 72000], (bounded (receives station start) 0).completes
          (frameCells (half foreignClaim)) (halfBits (half foreignClaim)))
      ∧ (bounded station 0).timer.lastBoundary = some 0 ∧ (bounded station 0).timer.roundStart = 0
      ∧ station.timer.target = none := by
  decide +kernel

theorem witness_ClaimFrameCodingRoundTrips :
    peerClaim.onLine ∧ Claim.reset.onLine
      ∧ ({ peerClaim with
          pad := 35, branch := 5, request := 1023, floor := 1023, weight := 15, draw := 1023, commit := 1023,
          intentAge := 255, branchLimit := 4095, feederLimit := 16383, curtailLimit := 16383 }
          : Claim).onLine
      ∧ crc16 (claimBits peerClaim) + 1 ≠ crc16 (claimBits peerClaim)
      ∧ 182 + 10 ≤ (halfBits (half peerClaim)).length ∧ 9 < 10 := by decide +kernel

/-- With the own slot due. -/
def ownSlotDue (s : State) : State := { s with due := { Due.nothing with ownSlot := true } }

theorem witness_OwnSlotLoadsTheClaimAndDecides :
    (ownSlotDue station).resetHeld = false ∧ (ownSlotDue station).due.ownSlot = true
      ∧ (ownSlotDue station).session.record = none
      ∧ (ownSlotDue (carrying station vehicle)).session.record = some vehicle
      ∧ (ownSlotDue (inSession station .intent)).session.state = .intent
      ∧ (ownSlotDue station).standing.state = .active
      ∧ (let s := stands { station with standing := { station.standing with backoff := 1 } } .backoff;
          s.standing.state = .backoff ∧ 0 < s.standing.backoff)
      ∧ (stands station .isolated).standing.backoff = 0
      ∧ (stands station .listen).standing.state ≠ .active := by decide

theorem witness_WeightFollowsTheSlack :
    let s := ownSlotDue (carrying (inSession station .connected) vehicle)
    s.resetHeld = false ∧ s.due.ownSlot = true ∧ s.session.state = .connected
      ∧ s.session.record = some vehicle := by decide

/-- In transmission of the own claim, with the failure count and the good-echo run. -/
def sending (st : Standing) (k good : Nat) : State :=
  { station with
    standing := { station.standing with state := st, failures := k, goodRun := good }
    line := { station.line with pending := half { peerClaim with pad := 7 }, txActive := true } }

theorem witness_OwnFrameEndJudgesTheEcho :
    (sending .active 0 0).resetHeld = false ∧ (sending .active 0 0).line.txActive = true
      ∧ (sending .active 0 0).line.txAbandoned = false
      ∧ ({ sending .active 0 0 with line := { (sending .active 0 0).line with txAbandoned := true } }
          : State).line.txAbandoned = true
      ∧ (let cells := frameCells (sending .active 0 0).line.pending;
          hasViolation cells = false ∧ bitsBeforeViolation cells = frameBits (sending .active 0 0).line.pending
            ∧ checkMatches (halfBits (sending .active 0 0).line.pending) = true)
      ∧ hasViolation [flat] = true
      ∧ (sending .backoff 1 0).standing.state = .backoff
      ∧ (sending .isolated 6 0).standing.goodRun = 0 ∧ (sending .isolated 6 1).standing.goodRun = 1
      ∧ min 255 ((sending .backoff 4 0).standing.failures + 1) ≠ 6
      ∧ min 255 ((sending .backoff 5 0).standing.failures + 1) = 6
      ∧ (sending .isolated 255 0).standing.failures = 255
      ∧ (sending .conflict 0 0).standing.state.transmitting = false := by
  decide +kernel

theorem witness_BackoffLengthIsATwoBitGroup : 1 ≤ 1 ∧ 1 ≤ 255 := by decide

/-- With a claim in the receive register and the store granted to it. -/
def filing (e : Entry) : State :=
  granted { viewing station (table [(3, e)]) with
    line := { station.line with register := some peerClaim } } .claimWrite

theorem witness_ClaimFiledMakesTheEntryLive :
    (filing Entry.blank).resetHeld = false ∧ (filing Entry.blank).store.grant = some .claimWrite
      ∧ (filing Entry.blank).line.register = some peerClaim
      ∧ peerClaim.pad < (filing Entry.blank).view.entries.length
      ∧ ((filing { heldEntry 3 40 with expected := some 209 }).view.entry 3).expected = some 209
      ∧ 209 < peerClaim.commit ∧ peerClaim.commit ≤ 210
      ∧ ((filing (Entry.adoptedWith 100)).view.entry 3).state = .adopted
      ∧ ((filing (heldEntry 3 40)).view.entry 3).state = .held
      ∧ ((table [(0, heldEntry 0 40)]).getD 0 Entry.blank).state = .held
      ∧ ((table [(35, heldEntry 35 40)]).getD 35 Entry.blank).state = .held
      ∧ ((filing (heldEntry 3 40)).view.entry 3).claim.map Claim.identity ≠ some peerClaim.identity := by
  decide

/-- A view for the sweep: every state, at the ages where it changes. -/
def sweeping : State :=
  granted (viewing station (table
    [(1, entryOf 1 .live true (some 0) none peerClaim),
      (2, entryOf 2 .live false (some 1) (some 210) peerClaim),
      (3, entryOf 3 .live false (some 2) (some 210) peerClaim),
      (4, entryOf 4 .stale false (some 10) (some 210) peerClaim),
      (5, entryOf 5 .stale false (some 11) (some 1) peerClaim),
      (6, entryOf 6 .stale false (some 11) (some 0) Claim.reset),
      (8, heldEntry 8 40), (9, Entry.adoptedWith 100)])) .sweep

/-- Table 4-1 at the sweep: STALE at age 3, HELD at age 12, EMPTY where nothing is reserved; the mask of the
claims names pads 0 and 2. -/
theorem test_sweep_ages :
    let t := after .sweep sweeping
    (List.range 10).map (fun p => (t.view.entry p).state) =
        [.adopted, .live, .live, .stale, .stale, .held, .empty, .empty, .held, .empty]
      ∧ (t.view.entry 1).reserve = some 210 ∧ t.view.heldCount = 2
      ∧ t.notices.queue.map (fun n => (n.pad, n.value)) = [(some 5, some 1)] := by
  decide +kernel

theorem witness_SweepAgesAdoptsAndReleases :
    sweeping.resetHeld = false ∧ sweeping.store.grant = some .sweep ∧ sweeping.view.entries.length = 36
      ∧ station.standing.pad = some 7
      ∧ (sweeping.view.entry 1).heard = true ∧ (sweeping.view.entry 2).age = some 1
      ∧ (sweeping.view.entry 3).age = some 2 ∧ (sweeping.view.entry 4).age = some 10
      ∧ (sweeping.view.entry 5).reserve = some 1 ∧ (sweeping.view.entry 6).reserve = some 0
      ∧ (sweeping.view.entry 8).state = .held ∧ (sweeping.view.entry 9).state = .adopted
      ∧ (sweeping.view.entry 0).state = .empty ∧ peerClaim.heldMask.getLsbD 0 = true
      ∧ ({ station with due := { Due.nothing with sweepPoint := true } } : State).due.sweepPoint = true
      ∧ station.store.grant = none := by
  decide

theorem witness_ExpectedCommitsAreTheShares :
    let s := granted { viewing station (table []) with
      share := { Share.powerOn with
        published := { Published.powerOn with
          rows := [{ pad := 3, branch := 0, share := 340, disposition := .filled }] } } } .expectedWrite
    s.resetHeld = false ∧ s.store.grant = some .expectedWrite ∧ s.standing.pad = some 7
      ∧ 35 < s.view.entries.length
      ∧ (∀ row ∈ s.share.published.rows, row.pad ≠ 35)
      ∧ ∀ row ∈ s.share.published.rows, row.pad = 3 →
        row = { pad := 3, branch := 0, share := 340, disposition := .filled } := by decide

theorem witness_ReadViewWalksTheEntries :
    readSnapshot.resetHeld = false ∧ readSnapshot.store.grant = some .readView
      ∧ (readSnapshot.port.waiting.map PortWait.command) = some (.readView (some 30) 6 true)
      ∧ (some 30).getD readSnapshot.view.cursor < 36 ∧ (some 35).getD readSnapshot.view.cursor < 36
      ∧ (none : Option Nat).getD readSnapshot.view.cursor < 36 ∧ 1 ≤ 6 ∧ 1 ≤ 1 := by decide

theorem witness_ReleaseHeldEmptiesUpToALivePad :
    releaseState.resetHeld = false ∧ releaseState.store.grant = some .releaseHeld
      ∧ (releaseState.port.waiting.map PortWait.command) = some (.releaseHeld [(5, 3), (20, 4), (9, 1)])
      ∧ releaseState.view.entries.length = 36
      ∧ ([(5, 3), (20, 4), (9, 1)].flatMap fun r => ((List.range r.2).map (r.1 + ·)).filter (· < 36))
        = [5, 6, 7, 20, 21, 22] ++ [23, 9]
      ∧ (∀ pad ∈ [5, 6, 7, 20, 21, 22], releaseState.standing.pad = some pad
        ∨ ((releaseState.view.entry pad).state ≠ .live ∧ (releaseState.view.entry pad).state ≠ .stale))
      ∧ (releaseState.standing.pad ≠ some 23 ∧ (releaseState.view.entry 23).state = .stale) := by decide

theorem witness_PortResetAccessKeepsOnlyHeldEntries :
    let s := waits (granted (viewing station (table [(8, heldEntry 8 40)])) .portResetView) .portReset
    s.resetHeld = false ∧ s.store.grant = some .portResetView
      ∧ s.port.waiting = some { command := .portReset, responseLost := false }
      ∧ (s.view.entry 8).state = .held ∧ (s.view.entry 0).state ≠ .held ∧ 35 < s.view.entries.length := by
  decide

/-- With the compute point due. -/
def computing (s : State) : State := { s with due := { Due.nothing with compute := true } }

/-- R85: clause (b), a pulse since the last compute point, sets the own curtail state. -/
theorem test_curtail_clause_b :
    (after .computePoint (computing { station with limit := { Limit.powerOn with assertionSeen := true } })).limit.ownCurtail
      = true := by decide

theorem witness_ComputePointSettlesCurtailAndCandidacy :
    (computing station).resetHeld = false ∧ (computing station).due.compute = true
      ∧ (let s := computing (inSession { station with
            line := { station.line with
              echo := .good, sent := half { foreignClaim with intent := .connect } } } .intent);
          s.session.state = .intent ∧ s.standing.state = .active ∧ s.line.echo = .good
            ∧ s.line.sent.claim.intent = .connect ∧ s.standing.pad = some 7) := by decide

/-- Waiting for the snapshot. -/
def copying (inForce : Bool) (known : List (Nat × Entry)) : State :=
  granted { viewing station (table known) with
    share := { Share.powerOn with phase := .awaitingSnapshot }
    limit := { Limit.powerOn with inForce := inForce } } .snapshot

theorem witness_SnapshotGivesLimitsAndBudgets :
    (copying false []).resetHeld = false ∧ (copying false []).store.grant = some .snapshot
      ∧ (copying false []).share.phase = .awaitingSnapshot ∧ 35 < (copying false []).view.entries.length
      ∧ (after .snapshotCopy (copying true [])).limit.inForce = false
      ∧ (after .snapshotCopy (copying false
          [(3, entryOf 3 .live true (some 0) none { peerClaim with curtailFlag := true })])).limit.inForce
        = true := by
  decide +kernel

/-- With a computation on the snapshot of Table 5-2. -/
def completing (snap : Snapshot) : State :=
  { station with share := { Share.powerOn with phase := .computing, snapshot := some snap } }

/-- The snapshot of Table 5-2 with the own claim sent as ACTIVE, and pad 3 with request 0. -/
def sentSnapshot : Snapshot :=
  { limitSnapshot with echo := .good, own := { limitSnapshot.own with kind := .active, request := 50 } }

theorem witness_CompletionPublishesTheResults :
    (completing limitSnapshot).resetHeld = false ∧ (completing limitSnapshot).share.phase = .computing
      ∧ (completing limitSnapshot).share.snapshot = some limitSnapshot
      ∧ (completing limitSnapshot).standing.pad ≠ some 35 ∧ (completing limitSnapshot).standing.pad = some 7
      ∧ sentSnapshot.echo ≠ .notSent ∧ sentSnapshot.own.kind = .active
      ∧ (after .completion (completing limitSnapshot)).share.participants.map Participant.request = [0, 0]
      ∧ (∀ row ∈ (after .completion (completing limitSnapshot)).share.published.rows,
          (completing limitSnapshot).standing.pad ≠ some row.pad) := by
  decide +kernel

theorem witness_EachShareIsZeroOrBetweenFloorAndRequest :
    (completing sentSnapshot).resetHeld = false ∧ (completing sentSnapshot).share.phase = .computing
      ∧ (completing sentSnapshot).share.snapshot = some sentSnapshot := by decide

/-- With budgets. -/
def budgeted (snap : Snapshot) : State :=
  { completing snap with
    limit := { Limit.powerOn with feederBudget := 500, branchBudgets := [410, 610, 280, 15900, 15900, 15900] } }

theorem witness_SharesStayWithinTheBudgets :
    (budgeted sentSnapshot).resetHeld = false ∧ (budgeted sentSnapshot).share.phase = .computing
      ∧ (budgeted sentSnapshot).share.snapshot = some sentSnapshot
      ∧ (budgeted sentSnapshot).limit.branchBudgets.getD 0 0 = 410
      ∧ (budgeted sentSnapshot).limit.branchBudgets.getD 5 0 = 15900 := by decide

theorem witness_FillLevelIsTheLargestThatFits :
    (let ms := (twoBranches 100).map fun p => ({ part := p, frozen := none } : FillMember);
      fits twoBudgets ms 0 = true ∧ fits twoBudgets ms 454 = true ∧ fits twoBudgets ms 455 = false)
      ∧ equalWeights ≠ []
      ∧ (let ms := (twoBranches 100).map fun p => ({ part := p, frozen := none } : FillMember);
          topLevel twoBudgets ms = 454 ∧ ¬twoBudgets.feeder < (ms.map fun m => m.shareAt 455).sum
            ∧ (ms.map fun m => m.part.branch) = [0, 0, 0, 1, 1] ∧ twoBudgets.branches.getD 1 0 = 740)
      ∧ (twoBranches 100).length ≤ 5
      ∧ (((runFill twoBudgets (twoBranches 150)).2.filter fun m => m.frozen.getD 0 < m.part.floor).map
          FillMember.part).map Participant.pad = [12]
      ∧ ((runFill twoBudgets (twoBranches 100)).2.filter fun m => m.frozen.getD 0 < m.part.floor) = [] := by
  decide +kernel

/-- At the apply point with an echo result. -/
def applying (echo : Echo) : State :=
  { station with due := { Due.nothing with apply := true }, line := { station.line with echo := echo } }

theorem witness_ApplyPointSetsTheSetpointByCase :
    (∀ e ∈ [Echo.good, .failed, .notSent],
        (applying e).resetHeld = false ∧ (applying e).due.apply = true ∧ (applying e).line.echo = e
          ∧ (applying e).standing.state ≠ .conflict ∧ (applying e).session.state = .vacant)
      ∧ (stands (applying .good) .conflict).standing.state = .conflict
      ∧ (inSession (applying .good) .stopping).session.state = .stopping
      ∧ (inSession (applying .good) .fault).session.state = .fault
      ∧ ({ station with due := { Due.nothing with spchgEnd := true } } : State).due.spchgEnd = true := by decide

/-- A turn decision on a snapshot, with the own candidate and the held events. -/
def deciding (snap : Snapshot) (own : Option Candidate) (held : List HeldEvent) : State :=
  let s := inSession station .intent
  { s with
    turn := { Turn.powerOn with deciding := true, ownCandidate := own }
    share := { Share.powerOn with snapshot := some snap }
    session := { s.session with held := held } }

/-- Candidates on branches 0 and 1, and SWITCHED claims of pads 19 and 20. -/
def turnSnapshot (switched : Nat → Nat) : Snapshot :=
  { limitSnapshot with
    entries := table
      ([(11, 1, 9), (16, 1, 9), (3, 0, 4)].map (fun c =>
          (c.1, entryOf c.1 .live true (some 0) none
            { Claim.reset with branch := c.2.1, intent := .connect, intentAge := c.2.2 }))
        ++ [19, 20].map (fun p =>
          (p, entryOf p .live true (some 0) none
            { Claim.reset with branch := switched p, intent := .switched }))) }

/-- The own candidate of Table 8-3. -/
def ownCandidate : Candidate := { pad := 7, branch := 0, age := 5 }

theorem witness_TurnWalkGivesOnePerBranchAndTwoInAll :
    (let s := deciding (turnSnapshot fun _ => 2) (some ownCandidate) [];
      s.resetHeld = false ∧ s.turn.deciding = true
        ∧ s.share.snapshot = some (turnSnapshot fun _ => 2) ∧ s.limit.inForce = false
        ∧ s.standing.pad = some 7
        ∧ ((after .turnDecision s).turn.given.map Candidate.pad) = [11, 7]
        ∧ (after .turnDecision s).turn.ownTurn = true)
      ∧ ((after .turnDecision (deciding (turnSnapshot fun p => p - 19) (some ownCandidate) [])).turn.given).length
        < 2
      ∧ ({ deciding (turnSnapshot fun _ => 2) none [] with limit := { Limit.powerOn with inForce := true } }
        : State).limit.inForce = true := by
  decide +kernel

theorem witness_TurnDecisionHandsTheOwnTurnOver :
    (∀ held ∈ [[], [HeldEvent.dockLoss], [.endCommand], [.endCommand, .dockLoss], [.dockLoss, .endCommand]],
        let s := carrying (deciding (turnSnapshot fun _ => 2) (some ownCandidate) held) vehicle
        s.turn.barred = false ∧ s.session.record = some vehicle ∧ s.session.held = held
          ∧ s.session.state = .intent ∧ (after .turnDecision s).turn.ownTurn = true)
      ∧ (∀ held ∈ [[], [HeldEvent.dockLoss], [HeldEvent.endCommand]],
        let s := deciding (turnSnapshot fun _ => 2) (some ownCandidate) held
        s.resetHeld = false ∧ s.turn.deciding = true ∧ s.session.held = held ∧ s.session.state = .intent
          ∧ s.seq.openMode = .none ∧ (after .turnDecision s).turn.ownTurn = true)
      ∧ (∀ held ∈ [[], [HeldEvent.dockLoss], [.endCommand], [.endCommand, .dockLoss], [.dockLoss, .endCommand]],
        ∀ st ∈ [SessionState.released, .fault],
        let s := inSession (waits (carrying (deciding (turnSnapshot fun _ => 2) (some ownCandidate) held) vehicle)
          .endCommand) st
        s.resetHeld = false ∧ s.turn.deciding = true ∧ s.session.state = st ∧ s.session.held = held
          ∧ s.session.record = some vehicle
          ∧ s.port.waiting = some { command := .endCommand, responseLost := false })
      ∧ (after .turnDecision (deciding (turnSnapshot fun _ => 0) none [.endCommand])).turn.ownTurn = false
      ∧ (waits (deciding (turnSnapshot fun _ => 2) none [.endCommand]) .endCommand).port.waiting
        = some { command := .endCommand, responseLost := false }
      ∧ (onBranch ((turnSnapshot fun _ => 2).switchedClaims (some 7) 0) 2).length = 2
      ∧ ((turnSnapshot fun p => p - 19).switchedClaims (some 7) 0).length < 3
      ∧ ∀ b < 6, (onBranch ((turnSnapshot fun p => p - 19).switchedClaims (some 7) 0) b).length < 2
      ∧ (let s := waits (deciding (turnSnapshot fun _ => 2) none [.dockLoss]) (.readView none 1 false);
          HeldEvent.endCommand ∉ s.session.held
            ∧ s.port.waiting = some { command := .readView none 1 false, responseLost := false })
      ∧ (deciding (turnSnapshot fun _ => 2) none []).port.waiting = none := by
  decide +kernel

/-- At the switch window in a phase. -/
def window (p : Phase) (m : OpenMode) (pre main : Bool) : State :=
  let s := driven (inPhase station p m) pre main .agreed .agreed
  { s with due := { Due.nothing with switchWindow := true }, seq := { s.seq with prechargeCount := 10 } }

theorem witness_SwitchWindowMakesTheDriveChangesDue :
    (window .turnTaken .none false false).resetHeld = false
      ∧ (window .turnTaken .none false false).due.switchWindow = true
      ∧ (window .turnTaken .none false false).seq.openMode ≠ .forced
      ∧ (window .turnTaken .forced false false).seq.openMode = .forced
      ∧ (window .precharging .none true false).cfg.prechargeRounds
        ≤ (window .precharging .none true false).seq.prechargeCount
      ∧ (window .preRelease .none true true).seq.openMode = .none
      ∧ (let s := window .on .forced false true; s.seq.mainDrive = true ∧ s.applyUnit.applied = 0)
      ∧ (let s := window .on .normal false true;
          s.session.lastMeasured ≤ s.cfg.openThreshold ∧ s.session.reportAge < 4)
      ∧ (let s := window .faulted .forced true true; s.seq.phase = .faulted ∧ s.seq.preDrive = true)
      ∧ (window .idle .none false false).seq.phase ≠ .turnTaken
      ∧ (inSession (window .turnTaken .forced false false) .stopping).session.state = .stopping
      ∧ (window .turnTaken .forced false false).session.state ≠ .stopping
      ∧ (window .on .none false true).seq.openMode = .none := by decide

/-- With confirm counts. -/
def confirming (pc mc : Confirm) (st : SessionState) : State :=
  driven (inSession station st) true true pc mc

theorem witness_ConfirmWindowEndsInAContactorFault :
    (∀ st ∈ [SessionState.precharge, .fault],
        (confirming (.awaiting 5) (.awaiting 5) st).resetHeld = false
          ∧ (confirming (.awaiting 5) (.awaiting 5) st).seq.preConfirm = .awaiting 5
          ∧ (confirming (.awaiting 5) (.awaiting 4) st).seq.mainConfirm = .awaiting 4
          ∧ (confirming .agreed (.awaiting 5) st).seq.preConfirm = .agreed
          ∧ (confirming .agreed (.awaiting 5) st).session.state = st) := by decide

/-- At the end of slot period 39, with a reference of an offset. -/
def ending (offset : Int) : State :=
  { atSlot station 39 with
    timer := { (atSlot station 39).timer with reference := some { pad := 3, offset := offset } } }

theorem witness_RoundBoundaryAlignsAndCounts :
    (∀ offset ∈ [(16 : Int), 17, 320, 321, -17, -320, -321],
        (ending offset).resetHeld = false ∧ (ending offset).canRoundBoundary = true
          ∧ (ending offset).timer.reference = some { pad := 3, offset := offset }
          ∧ (ending offset).timer.mode = .running)
      ∧ (ending 0).timer.tickCount < 99
      ∧ ({ ending 0 with timer := { (ending 0).timer with tickCount := 99 } } : State).canRoundBoundary = true
      ∧ (inMode (ending 0) .realign).canRoundBoundary = true ∧ (inMode (ending 0) .realign).timer.mode ≠ .running
      ∧ (inMode (ending 0) .realign).timer.target = none
      ∧ ({ ending 0 with timer := { (ending 0).timer with mode := .realign, target := some 90000 } }
        : State).canRoundBoundary = true := by
  decide

/-- A CONNECTED session at the boundary, with a report age and an overdraw run. -/
def charging (age run energy : Nat) : State :=
  let s := carrying (inSession (ending 0) .connected) { vehicle with energyNeeded := energy }
  { s with session := { s.session with reportAge := age, overdrawRun := run, lastMeasured := 6 } }

theorem witness_RoundBoundaryMovesTheStanding :
    (∀ st ∈ [Standing.acquire, .listen, .active, .backoff, .isolated, .conflict, .resync],
        (stands (ending 321) st).resetHeld = false ∧ (stands (ending 321) st).canRoundBoundary = true
          ∧ (stands (ending 321) st).timer.mode = .running)
      ∧ (let s := stands (ending 0) .listen;
          ({ s with standing := { s.standing with occupant := some 77 } } : State).canRoundBoundary = true)
      ∧ (∀ st ∈ [SessionState.vacant, .docked, .intent, .precharge, .connected, .stopping, .released, .fault],
        ∀ age ∈ [2, 3],
          let c := stands (inSession (charging age 7 0) st) .listen
          let s : State := { c with standing := { c.standing with occupant := some 77 } }
          s.resetHeld = false ∧ s.canRoundBoundary = true ∧ s.timer.mode = .running ∧ s.session.state = st
            ∧ s.session.record = some { vehicle with energyNeeded := 0 } ∧ s.session.reportAge = age
            ∧ s.standing.state = .listen ∧ s.standing.occupant = some 77)
      ∧ (inPhase (ending 0) .on .none).seq.phase ≠ .idle
      ∧ (stands (ending 321) .listen).notices.queue.length < 15
      ∧ min 255 (({ ending 321 with timer := { (ending 321).timer with misaligned := 1 } }
          : State).timer.misaligned + 1) = 2
      ∧ (let s := inMode (stands (ending 321) .resync) .realign;
          s.resetHeld = false ∧ s.canRoundBoundary = true ∧ s.timer.mode ≠ .running
            ∧ s.standing.state ≠ .listen)
      ∧ (ending 0).seq.phase = .idle ∧ (ending 0).seq.preDrive = false ∧ (ending 0).seq.mainDrive = false := by decide

theorem witness_RoundBoundaryIntegratesTheSession :
    (∀ a ∈ [2, 3, 48, 49], (charging a 0 125).resetHeld = false ∧ (charging a 0 125).canRoundBoundary = true
        ∧ (charging a 0 125).standing.state ≠ .listen ∧ (charging a 0 125).session.state = .connected)
      ∧ (charging 0 7 125).session.lastMeasured
        > (charging 0 7 125).applyUnit.applied + 5 + (charging 0 7 125).applyUnit.applied / 16
      ∧ min 8 ((charging 0 7 125).session.overdrawRun + 1) = 8
      ∧ min 8 ((charging 0 6 125).session.overdrawRun + 1) < 8
      ∧ (charging 0 0 0).session.record = some { vehicle with energyNeeded := 0 }
      ∧ (inSession (ending 0) .intent).session.state ≠ .connected
      ∧ (let s := stands { charging 0 0 0 with
            timer := { (ending 321).timer with misaligned := 1 } } .listen;
          s.canRoundBoundary = true ∧ s.standing.occupant = none ∧ s.timer.mode = .running
            ∧ s.timer.reference = some { pad := 3, offset := 321 } ∧ s.session.state = .connected) := by decide

theorem witness_RoundBoundaryFollowUpsTakeEffect :
    (let s := carrying { station with due := { Due.nothing with tick := true } } vehicle;
        s.resetHeld = false ∧ s.due.tick = true ∧ s.session.record = some vehicle
          ∧ vehicle.departure = some 240 ∧ ({ vehicle with departure := none } : Record).departure = none)
      ∧ (let s := inSession { station with due := { Due.nothing with overdraw := some 6 } } .connected;
          s.due.overdraw = some 6 ∧ s.session.state = .connected)
      ∧ (let s := inSession { station with due := { Due.nothing with reportLost := some 50 } } .connected;
          s.due.reportLost = some 50 ∧ s.session.state = .connected ∧ s.seq.openMode = .none)
      ∧ (let s := { station with due := { Due.nothing with resync := true } };
          s.due.resync = true ∧ s.standing.state = .active) := by decide

theorem witness_RoundsStartBySilenceTargetAndFallback :
    (let s := { station with timer := { Timer.powerOn with mode := .search, nextPeriod := 160000 } };
        s.resetHeld = false ∧ s.timer.mode = .search ∧ s.timer.searchStart + 160000 ≤ s.timer.nextPeriod)
      ∧ (let s := { station with
            timer := { Timer.powerOn with
              mode := .realign, inGap := true, target := some 90000, nextPeriod := 90000 } };
          s.timer.mode = .realign ∧ s.timer.inGap = true ∧ s.timer.target = some 90000
            ∧ (90000 : Int) ≤ s.timer.nextPeriod)
      ∧ (let s := { station with timer := { Timer.powerOn with mode := .realign, silence := 80 } };
          s.timer.mode = .realign ∧ s.timer.inGap = false ∧ s.timer.slot = none ∧ s.timer.target = none
            ∧ 80 ≤ s.timer.silence) := by decide

/-- R188, R189: the sixteenth notice joins behind the others, the seventeenth is dropped. -/
theorem test_push_at_the_bound :
    let newest : Notice := { kind := .rejoined, stamp := 5, pad := none, value := none }
    let full : Nat → NoticeQueue := fun n =>
      { queue := List.replicate n { newest with kind := .resync }, lost := false, attn := true }
    ((full 15).push newest).queue = (full 15).queue ++ [newest] ∧ ((full 15).push newest).lost = false
      ∧ ((full 16).push newest).queue = (full 16).queue ∧ ((full 16).push newest).lost = true := by decide

/-- R174: C1H goes out most significant bit first, and FFH after it drives its first bit at the end. -/
theorem test_cp_dout_bits :
    let s := { station with port := { Port.powerOn with
      txn := .response, response := some [0x80, 0xC1], readPos := 1 } }
    let t := after (.byteClocked 0) s
    s.outputs.cpDout = some true ∧ t.outputs.cpDout = some true
      ∧ t.outputs.cpDoutBits = [true, true, false, false, false, false, false, true] := by decide

theorem witness_TransactionsOpenAndClose :
    station.resetHeld = false ∧ station.port.txn = .closed ∧ station.port.ready = none
      ∧ (framed station 0x02 [0, 0]).port.txn ≠ .closed
      ∧ (waits station .endCommand).port.waiting = some { command := .endCommand, responseLost := false } := by
  decide

/-- In a transaction state, with an assembly and a response. -/
def transacting (txn : Txn) (assembly : List Byte) (response : Option (List Byte)) (pos : Nat) : State :=
  { station with
    port := { Port.powerOn with txn := txn, assembly := assembly, response := response, readPos := pos } }

theorem witness_ByteClockedFollowsTheTransactionState :
    (transacting .command [0x05] none 0).resetHeld = false ∧ (transacting .command [0x05] none 0).port.txn ≠ .closed
      ∧ (∃ code len ps, [(0x05 : Byte)] ++ [0x00] = code :: len :: ps ∧ ps.length = len.toNat)
      ∧ (transacting .execute [] none 0).port.response = none
      ∧ (transacting .execute [] (some [0x80, 0]) 0).port.response = some [0x80, 0]
      ∧ (transacting .response [] (some [0x80, 0]) 1).port.readPos < 2
      ∧ (transacting .spent [] none 0).port.txn = .spent
      ∧ (after (.byteClocked 0) (transacting .spent [] none 0)).port.dout = some 0xFF
      ∧ (after (.byteClocked 0) (transacting .response [] (some [0x80, 0]) 1)).port.txn = .spent
      ∧ (after (.byteClocked 0) (transacting .command [] none 0)).port.txn = .command
      ∧ (after (.byteClocked 0) (transacting .execute [] none 0)).port.txn = .execute
      ∧ (let t := after (.byteClocked 0) (transacting .execute [] (some [0x80, 0]) 0);
          t.port.txn = .response ∧ t.port.response = some [0x80, 0]
            ∧ ([0x80, 0] : List Byte)[t.port.readPos]? = some 0) :=
  ⟨by decide, by decide, ⟨5, 0, [], by decide, by decide⟩, by decide, by decide, by decide, by decide,
    by decide, by decide, by decide, by decide, by decide⟩

theorem witness_FramesAreCheckedBeforeTheyAreTaken :
    (framed station 0x7F []).taking 0x7F [] ∧ (0x7F : Byte) ∉ commandCodes
      ∧ (let s := waits (framed station 0x05 []) .endCommand;
          s.resetHeld = false ∧ s.port.ready = some [0x05, 0]
            ∧ s.port.waiting = some { command := .endCommand, responseLost := false })
      ∧ (framed station 0x02 [0]).taking 0x02 [0]
      ∧ (framed blank 0x02 [0, 0]).taking 0x02 [0, 0] ∧ (framed blank 0x02 [0, 0]).configured = false
      ∧ (framed blank 0x01 []).taking 0x01 [] ∧ (framed station 0x01 (List.replicate 15 0)).configured = true
      ∧ (framed blank 0x01 (6 :: List.replicate 14 0)).taking 0x01 (6 :: List.replicate 14 0)
      ∧ 5 < param1 (6 :: List.replicate 14 0) 0 ∧ 35 < (36 : BitVec 6).toNat
      ∧ (∀ code ∈ [(0x01 : Byte), 0x15, 0x1F, 0x7F],
          (waits (framed station code []) .portReset).port.ready = some [code, 0])
      ∧ (framed station 0x14 [2, 20, 4]).taking 0x14 [2, 20, 4] ∧ [(2 : Byte), 20, 4].length ≠ 1 + 2 * 2
      ∧ (framed station 0x15 [0]).taking 0x15 [0] ∧ (framed station 0x1F [0]).taking 0x1F [0]
      ∧ (framed blank 0x14 [1, 20, 4]).taking 0x14 [1, 20, 4] ∧ [(1 : Byte), 20, 4].length = 1 + 2 * 1
      ∧ (framed blank 0x1F []).taking 0x1F [] := by
  refine ⟨?_, ?_, ?_, ?_, ?_, ?_, ?_, ?_, ?_, ?_, ?_, ?_, ?_, ?_, ?_, ?_, ?_, ?_, ?_⟩ <;> decide

theorem witness_SetupConfiguresTheStation :
    let ps : List Byte := 5 :: List.replicate 14 0
    (framed blank 0x01 ps).taking 0x01 ps ∧ ps.length = 15 ∧ (framed blank 0x01 ps).configured = false
      ∧ param1 ps 0 ≤ 5 ∧ (35 : BitVec 6).toNat ≤ 35 ∧ blank.qual.preFb.level = false
      ∧ (∀ p ∈ [(true, true), (true, false), (false, true)],
          (fbRun blank p.1 p.2).qual.preFb.level = p.1 ∧ (fbRun blank p.1 p.2).qual.mainFb.level = p.2)
      ∧ (dockRun blank true).docked = true ∧ blank.session.state = .vacant
      ∧ (inSession blank .fault).session.state = .fault := by decide

theorem witness_ReportSetsTheMeasuredPower :
    (framed station 0x02 [0x03, 0xFF]).taking 0x02 [0x03, 0xFF]
      ∧ (framed station 0x02 [0x04, 0x00]).taking 0x02 [0x04, 0x00] ∧ station.configured = true := by decide

theorem witness_DockBuildsTheRecord :
    let ps : List Byte := List.replicate 14 7
    (framed station 0x03 ps).taking 0x03 ps ∧ ps.length = 14 ∧ station.configured = true
      ∧ (inSession (framed station 0x03 ps) .docked).session.state = .docked
      ∧ (framed station 0x03 ps).session.state ≠ .docked := by decide

theorem witness_UpdateVehicleWritesTheMarkedFields :
    let ps : List Byte := List.replicate 10 7
    let s := carrying (framed (inSession station .intent) 0x04 ps) vehicle
    s.taking 0x04 ps ∧ ps.length = 10 ∧ s.configured = true ∧ s.session.record = some vehicle
      ∧ s.session.state = .intent ∧ (inSession s .fault).session.state ≠ .intent
      ∧ (framed station 0x04 ps).taking 0x04 ps ∧ (framed station 0x04 ps).session.state = .vacant
      ∧ station.session.record = none := by decide

theorem witness_EndActsBySessionStateOrWaits :
    (∀ st ∈ [SessionState.intent, .precharge, .connected, .stopping],
        (framed (inSession station st) 0x05 []).taking 0x05 []
          ∧ (framed (inSession station st) 0x05 []).session.state = st)
      ∧ station.configured = true ∧ station.seq.openMode = .none
      ∧ (let s := framed (deciding limitSnapshot (some ownCandidate) []) 0x05 [];
          s.taking 0x05 [] ∧ s.turn.deciding = true ∧ s.turn.ownCandidate.isSome = true) := by decide

theorem witness_ClearFaultReturnsTheSequencerToIdle :
    let s := framed (inSession station .fault) 0x06 []
    s.taking 0x06 [] ∧ s.configured = true ∧ s.session.state = .fault ∧ s.seq.preDrive = false
      ∧ s.seq.mainDrive = false ∧ s.qual.preFb.level = false ∧ s.qual.mainFb.level = false
      ∧ (driven s true false .agreed .agreed).seq.preDrive = true := by decide

theorem witness_ReadsAnswerWithTheFiguresOfTheInstant :
    (framed blank 0x10 []).taking 0x10 [] ∧ (framed station 0x11 []).taking 0x11 []
      ∧ station.configured = true ∧ (framed blank 0x15 []).taking 0x15 [] ∧ blank.configured = false
      ∧ (framed station 0x10 []).taking 0x10 [] := by decide

/-- With a READ VIEW frame complete. -/
def viewFrame (start count : Byte) : State := framed station 0x12 [start, count, 1]

theorem witness_ViewCommandsWaitForTheStore :
    (viewFrame 35 6).taking 0x12 [35, 6, 1] ∧ (viewFrame 0xFF 1).taking 0x12 [0xFF, 1, 1]
      ∧ (viewFrame 36 1).taking 0x12 [36, 1, 1] ∧ (viewFrame 0 7).taking 0x12 [0, 7, 1]
      ∧ (viewFrame 0 0).taking 0x12 [0, 0, 1] ∧ station.configured = true
      ∧ (framed station 0x14 [1, 20, 36]).taking 0x14 [1, 20, 36]
      ∧ (framed station 0x14 [0]).taking 0x14 [0]
      ∧ [Access.sweep, .claimWrite, .snapshot] = [.sweep] ++ .claimWrite :: [.snapshot]
      ∧ [Access.sweep, .snapshot, .claimWrite] = [.sweep] ++ .snapshot :: [.claimWrite] := by
  refine ⟨?_, ?_, ?_, ?_, ?_, ?_, ?_, ?_, ?_, ?_⟩ <;> decide

/-- A notice. -/
def someNotice : Notice := { kind := .resync, stamp := 4, pad := some 7, value := none }

theorem witness_ReadNoticeRemovesTheOldest :
    (let s := { framed station 0x13 [] with notices := NoticeQueue.powerOn.push someNotice };
        s.taking 0x13 [] ∧ s.notices.queue = [someNotice])
      ∧ (framed station 0x13 []).taking 0x13 [] ∧ (framed station 0x13 []).notices.queue = [] := by decide

theorem witness_PortResetResetsTheBlocksItNames :
    let s := framed station 0x1F []
    s.taking 0x1F [] ∧ s.configured = true ∧ s.session.state = .vacant ∧ s.seq.preDrive = false
      ∧ s.seq.mainDrive = false ∧ s.line.txActive = false ∧ (sending .active 0 0).line.txActive = true
      ∧ (inSession s .connected).session.state = .connected ∧ s.share.phase = .none
      ∧ (completing limitSnapshot).share.phase ≠ .none := by decide

/-- A view that is not the one of reset. -/
def liveView : State :=
  viewing station (table
    [(1, entryOf 1 .live true (some 0) none peerClaim), (8, heldEntry 8 40), (9, Entry.adoptedWith 100)])

set_option synthInstance.maxSize 1000 in
theorem witness_EveryCommandKeepsTheViewProper :
    liveView.viewProper ∧ exec .lineIdle liveView = .next liveView := by
  refine ⟨⟨?_, ?_, ?_, ?_, ?_, ?_, ?_, ?_, ?_, ?_, ?_⟩, rfl⟩
  all_goals decide +kernel

theorem witness_EveryCommandKeepsTheNoticesProper :
    let s := { station with notices := NoticeQueue.powerOn.push someNotice }
    s.noticesProper ∧ exec .lineIdle s = .next s
      ∧ (∀ n ∈ [15, 16], ({ NoticeQueue.powerOn with queue := List.replicate n someNotice }
          : NoticeQueue).queue.length = n) := ⟨by decide, rfl, by decide⟩

theorem witness_EveryCommandKeepsTheSetpointBounded :
    let s := { station with applyUnit := { ApplyUnit.powerOn with applied := 250, lastEchoed := 250 } }
    s.setpointBounded ∧ exec .lineIdle s = .next s := ⟨by decide, rfl⟩

theorem witness_DrivesChangeOnlyInTheSwitchWindow :
    let s := window .turnTaken .none false false
    exec .switchWindow s = .next (after .switchWindow s) ∧ (∀ cause, Instr.switchWindow ≠ .powerOnReset cause)
      ∧ s.seq.preDrive = false ∧ (after .switchWindow s).seq.preDrive = true :=
  ⟨rfl, fun _ h => by (cases h), by decide, by decide⟩

theorem witness_HeldEntriesLeaveHeldInThreeWays :
    let s := filing (heldEntry 3 40)
    exec .claimFiled s = .next (after .claimFiled s) ∧ (s.view.entry 3).state = .held
      ∧ ((after .claimFiled s).view.entry 3).state ≠ .held := ⟨rfl, by decide, by decide⟩

theorem witness_ConflictIsLeftOnlyByAReset :
    let s := framed (stands station .conflict) 0x1F []
    exec (.portReset 0) s = .next (after (.portReset 0) s) ∧ s.standing.state = .conflict
      ∧ (after (.portReset 0) s).standing.state ≠ .conflict := ⟨rfl, by decide, by decide⟩

theorem witness_CountersChangeOnlyAtRoundBoundaries :
    let s := stands (ending 0) .conflict
    exec .roundBoundary s = .next (s.timerBoundary.standingAndSession)
      ∧ s.timerBoundary.timer.roundCounter ≠ s.timer.roundCounter := ⟨rfl, by decide⟩

end Sys2Proof.Machine.Tests
end

section
/-! The back-off length of R45, read from the identity's bits. -/

namespace Sys2Proof.Machine

/-- A base-4 digit of a word is its two-bit group: the bits at the even position and above it. -/
theorem toNat_div_four_pow_mod_four {w : Nat} (x : BitVec w) (group : Nat) :
    x.toNat / 4 ^ group % 4 =
      2 * (x.getLsbD (2 * group + 1)).toNat + (x.getLsbD (2 * group)).toNat := by
  have lowBit : (x.getLsbD (2 * group)).toNat = x.toNat / 4 ^ group % 2 := by
    rw [← BitVec.testBit_toNat, Nat.toNat_testBit, Nat.pow_mul]
  have highBit : (x.getLsbD (2 * group + 1)).toNat = x.toNat / 4 ^ group / 2 % 2 := by
    rw [← BitVec.testBit_toNat, Nat.toNat_testBit, Nat.pow_succ, Nat.pow_mul, Nat.div_div_eq_div_mul]
  omega

/-- R45: the length by the identity's two bits; count 0 reads group 0, as count 1 does. -/
theorem backoffLength_eq_bits (identity : Identity) (k : Nat) :
    backoffLength identity k =
      1 + (2 * (identity.getLsbD (2 * ((k - 1) % 16) + 1)).toNat
        + (identity.getLsbD (2 * ((k - 1) % 16))).toNat) :=
  congrArg (1 + ·) (toNat_div_four_pow_mod_four identity ((k - 1) % 16))

theorem one_le_backoffLength (identity : Identity) (k : Nat) : 1 ≤ backoffLength identity k :=
  Nat.le_add_right 1 _

/-- A two-bit group is at most 3. -/
theorem backoffLength_le_four (identity : Identity) (k : Nat) : backoffLength identity k ≤ 4 := by
  have high := Bool.toNat_le (identity.getLsbD (2 * ((k - 1) % 16) + 1))
  have low := Bool.toNat_le (identity.getLsbD (2 * ((k - 1) % 16)))
  rw [backoffLength_eq_bits]
  omega

/-- Settles O16: the length is the group read bit by bit, its bounds are those of two bits, and Table 3-2 is
evaluated. -/
theorem backoffLengthIsATwoBitGroup : Obligations.BackoffLengthIsATwoBitGroup := by
  refine ⟨?bits, ?bounds, ?table⟩
  case bits => exact fun identity k _ => backoffLength_eq_bits identity k
  case bounds => exact fun identity k => ⟨one_le_backoffLength identity k, backoffLength_le_four identity k⟩
  case table => decide

end Sys2Proof.Machine
end

section
/-! The peer view (Chapter 4), first part: what every command does to the view table, and R77. -/

namespace Sys2Proof.Machine

/-! ### Operations that leave the view as it is -/

/-- A command whose effect keeps the view keeps it, raised or not. -/
theorem State.view_of_act {s t : State} {raised : Bool} {effect : State → State}
    (h : s.act raised effect = .next t) (keeps : ∀ s, (effect s).view = s.view) : t.view = s.view := by
  obtain ⟨-, -, rfl⟩ | ⟨-, rfl⟩ := State.act_cases h
  · exact keeps s
  · rfl

/-- The checks of a complete frame keep the view where the command itself does (R177). -/
theorem State.takeFrame_view (s : State) (lengthOk : List Byte → Bool) (needsSetup : Bool)
    (run : List Byte → State → State) (keeps : ∀ ps s, (run ps s).view = s.view) :
    (s.takeFrame lengthOk needsSetup run).view = s.view := by
  obtain ⟨-, same⟩ | ⟨frame, taken, -, rfl, ⟨-, busy⟩ | ⟨-, -, length⟩ | ⟨-, -, -, -, early⟩
      | ⟨-, -, -, runs⟩⟩ := s.takeFrame_cases lengthOk needsSetup run
  · rw [same]
  · rw [busy, State.refuse_view]
  · rw [length, State.refuse_view]
  · rw [early, State.refuse_view]
  · rw [runs, keeps]

/-- A port command keeps the view where what it runs does. -/
theorem State.view_of_act_takeFrame {s t : State} {raised needsSetup : Bool} {lengthOk : List Byte → Bool}
    {run : List Byte → State → State}
    (h : (s.act raised fun s => s.takeFrame lengthOk needsSetup run) = .next t)
    (keeps : ∀ ps s, (run ps s).view = s.view) : t.view = s.view :=
  State.view_of_act h fun s => s.takeFrame_view lengthOk needsSetup run keeps

/-! The line, the standing and the timer -/

@[simp] theorem State.takeOwnPadClaim_view (s : State) (i : Identity) : (s.takeOwnPadClaim i).view = s.view := by
  simp only [State.takeOwnPadClaim]
  split_ifs <;> simp

@[simp] theorem State.handClaim_view (s : State) (c : Claim) : (s.handClaim c).view = s.view := by
  simp only [State.handClaim]
  split_ifs <;> simp

@[simp] theorem State.evaluateFrame_view (s : State) (d : List Bool) : (s.evaluateFrame d).view = s.view := by
  simp only [State.evaluateFrame]
  split_ifs <;> simp [State.timeFrame]

@[simp] theorem State.receive_view (s : State) (cells : List LineCell) (burst : BurstEnd) :
    (s.receive cells burst).view = s.view := by
  simp only [State.receive]
  split_ifs <;> simp

@[simp] theorem State.endOwnFrame_view (s : State) (good : Bool) : (s.endOwnFrame good).view = s.view := rfl

@[simp] theorem State.takeGoodEcho_view (s : State) : s.takeGoodEcho.view = s.view := by
  unfold State.takeGoodEcho
  split
  · rfl
  · split <;> rfl
  · rfl

@[simp] theorem State.takeFailedEcho_view (s : State) : s.takeFailedEcho.view = s.view := by
  unfold State.takeFailedEcho
  split
  · rfl
  · dsimp only
    split <;> rfl
  · rfl
  · rfl

@[simp] theorem State.endListen_view (s : State) : s.endListen.view = s.view := by
  unfold State.endListen
  split
  · simp
  · split <;> simp

@[simp] theorem State.standingBoundary_view (s : State) : s.standingBoundary.view = s.view := by
  unfold State.standingBoundary
  split <;> simp

@[simp] theorem State.sessionBoundary_view (s : State) : s.sessionBoundary.view = s.view := by
  simp only [State.sessionBoundary]
  split <;> rfl

@[simp] theorem State.standingAndSession_view (s : State) : s.standingAndSession.view = s.view := by
  simp only [State.standingAndSession]
  split <;> simp

/-! The sequencer -/

@[simp] theorem State.changeFeedback_view (s : State) (c : Contactor) : (s.changeFeedback c).view = s.view := by
  cases c <;> rfl

@[simp] theorem State.openingConfirmed_view (s : State) : s.openingConfirmed.view = s.view := by
  unfold State.openingConfirmed
  split <;> simp

@[simp] theorem State.feedbackMatches_view (s : State) (c : Contactor) : (s.feedbackMatches c).view = s.view := by
  cases c <;> simp [State.feedbackMatches]

@[simp] theorem State.feedbackDeparts_view (s : State) (c : Contactor) : (s.feedbackDeparts c).view = s.view := by
  unfold State.feedbackDeparts
  split <;> simp

@[simp] theorem State.expireConfirm_view (s : State) (c : Contactor) : (s.expireConfirm c).view = s.view := by
  unfold State.expireConfirm
  split <;> simp

@[simp] theorem State.openContactors_view (s : State) : s.openContactors.view = s.view := by
  simp [State.openContactors]

@[simp] theorem State.closePre_view (s : State) : s.closePre.view = s.view := by
  unfold State.closePre
  split <;> simp

@[simp] theorem State.closeMain_view (s : State) : s.closeMain.view = s.view := by
  unfold State.closeMain
  split <;> rfl

@[simp] theorem State.releasePre_view (s : State) : s.releasePre.view = s.view := rfl

@[simp] theorem State.windowByPhase_view (s : State) : s.windowByPhase.view = s.view := by
  unfold State.windowByPhase
  split
  · simp
  · split <;> simp
  · split <;> simp
  all_goals rfl

/-! The session and the turn planner -/

@[simp] theorem State.noteClash_view (s : State) (cs : List SwitchedClaim) : (s.noteClash cs).view = s.view := by
  unfold State.noteClash
  split <;> simp

@[simp] theorem State.planTurns_view (s : State) (snap : Snapshot) : (s.planTurns snap).view = s.view := by
  simp [State.planTurns]

@[simp] theorem State.takeHeld_view (s : State) (e : HeldEvent) : (s.takeHeld e).view = s.view := by
  cases e with
  | endCommand =>
    simp only [State.takeHeld, State.takeHeldEnd]
    split <;> simp
  | dockLoss => simp [State.takeHeld]

@[simp] theorem State.foldl_takeHeld_view (s : State) (events : List HeldEvent) :
    (events.foldl State.takeHeld s).view = s.view := by
  induction events generalizing s with
  | nil => rfl
  | cons e events ih => rw [List.foldl_cons, ih, State.takeHeld_view]

@[simp] theorem State.takeAllHeld_view (s : State) : s.takeAllHeld.view = s.view := by
  simp only [State.takeAllHeld, State.answerDiscardedEnd]
  split <;> simp

@[simp] theorem State.endNow_view (s : State) : s.endNow.view = s.view := by
  unfold State.endNow
  split <;> simp

@[simp] theorem State.takeDock_view (s : State) (ps : List Byte) : (s.takeDock ps).view = s.view := rfl

@[simp] theorem State.takeUpdate_view (s : State) (ps : List Byte) : (s.takeUpdate ps).view = s.view := rfl

@[simp] theorem State.takeClear_view (s : State) : s.takeClear.view = s.view := rfl

/-! SETUP, PORT RESET and the computation -/

@[simp] theorem State.takePortReset_view (s : State) (instant : Nat) :
    (s.takePortReset instant).view = s.view := rfl

@[simp] theorem State.settleConfirm_view (s : State) (c : Contactor) : (s.settleConfirm c).view = s.view := by
  unfold State.settleConfirm
  split <;> simp

@[simp] theorem State.settle_view (s : State) : s.settle.view = s.view := by
  simp only [State.settle, State.settleConfirms, State.settleDock]
  split <;> simp

@[simp] theorem State.takeSetup_view (s : State) (ps : List Byte) (pad instant : Nat) :
    (s.takeSetup ps pad instant).view = s.view := by
  simp [State.takeSetup]

@[simp] theorem State.noteCurtail_view (s : State) (was : Bool) : (s.noteCurtail was).view = s.view := by
  unfold State.noteCurtail
  split_ifs <;> simp

/-! ### The commands that leave the view as it is -/

/-- The commands that write the view: power-on reset, and the accesses of the view store but the snapshot
copy (R68, R76). READ VIEW's access moves the cursor only. -/
def writesView : Instr → Bool
  | .powerOnReset _ => true
  | .claimFiled => true
  | .expectedCommitWrite => true
  | .sweep => true
  | .readViewAccess => true
  | .releaseHeldAccess => true
  | .portResetViewAccess => true
  | _ => false

/-- Every other command keeps the view. -/
theorem exec_view {c : Instr} {s t : State} (h : exec c s = .next t) (keeps : writesView c = false) :
    t.view = s.view := by
  cases c with unfold exec at h
  | powerOnReset | claimFiled | expectedCommitWrite | sweep | readViewAccess | releaseHeldAccess
  | portResetViewAccess => cases keeps
  | periodStart | qualifiedCurtailChange | ownSlotStart | computePoint | applyPoint | spchgPulseEnd
  | sweepPoint | oneSecondTick | searchSilenceExpired | realignTargetReached | realignSilenceFallback
  | transactionOpen | transactionClose | frameStart | lineIdle | byteClocked | overdraw | reportLost
  | qualifiedDockAssertion => exact State.view_of_act h fun _ => rfl
  | claimFrameEvaluated | roundBoundary | confirmWindowExpired => exact State.view_of_act h fun s => by simp
  | dockLoss | snapshotCopy =>
    refine State.view_of_act h fun s => ?_
    split_ifs <;> simp
  | ownFrameEnd | qualifiedFeedbackChange | switchWindow | misalignmentResync =>
    refine State.view_of_act h fun s => ?_
    dsimp only
    split_ifs <;> simp
  | completion | turnDecision =>
    refine State.view_of_act h fun s => ?_
    split <;> simp [State.complete]
  | readStatus | readGrant | readNotice | report | identify | unknownCommand =>
    exact State.view_of_act_takeFrame h fun _ _ => rfl
  | setup | dock | updateVehicle | readView | releaseHeld | portReset | endCharge | clearFault =>
    refine State.view_of_act_takeFrame h fun ps s => ?_
    split_ifs <;> simp [State.readStraps]
  | resetEnd =>
    cases h
    split <;> rfl

/-! ### The entries of the table -/

/-- A HELD entry stands in the table: beyond its end the entries read EMPTY. -/
theorem View.lt_length_of_held {v : View} {pad : Nat} (held : (v.entry pad).state = .held) :
    pad < v.entries.length := by
  by_contra beyond
  rw [View.entry, List.getD_eq_default _ _ (by omega)] at held
  cases held

/-- Emptying an entry, or trying to beyond the end of the table, which reads EMPTY. -/
theorem getD_set_blank (entries : List Entry) (p q : Nat) :
    (entries.set p Entry.blank).getD q Entry.blank
      = if q = p then Entry.blank else entries.getD q Entry.blank := by
  by_cases inside : p < entries.length
  · exact getD_set_entry entries p q Entry.blank inside
  · rw [List.set_eq_of_length_le (by omega)]
    split
    · rw [List.getD_eq_default _ _ (by omega)]
    · rfl

/-! ### Receipts (R58) -/

/-- The entry of the pad that a claim carries, after the claim is filed (R58). -/
theorem State.fileClaim_entry_same (s : State) (c : Claim) (inside : c.pad < s.view.entries.length) :
    (s.fileClaim c).view.entry c.pad = (s.view.entry c.pad).receive c :=
  (getD_set_entry s.view.entries c.pad c.pad _ inside).trans (if_pos rfl)

/-- A receipt leaves the entries of the other pads (R58). -/
theorem State.fileClaim_entry_of_ne (s : State) (c : Claim) {pad : Nat} (other : pad ≠ c.pad) :
    (s.fileClaim c).view.entry pad = s.view.entry pad := by
  simp [State.fileClaim, View.entry, List.getD_eq_getElem?_getD, other.symm]

/-! ### The sweep (R61, R63, R64) -/

/-- The table after the aging, entry by entry (R61). -/
theorem getD_agedEntries (own : Option Nat) (entries : List Entry) {pad : Nat}
    (inside : pad < entries.length) :
    (agedEntries own entries).getD pad Entry.blank
      = if some pad = own then entries.getD pad Entry.blank else (entries.getD pad Entry.blank).aged :=
  getD_mapIdx_entry _ entries pad inside

@[simp] theorem agedEntries_length (own : Option Nat) (entries : List Entry) :
    (agedEntries own entries).length = entries.length := List.length_mapIdx

@[simp] theorem sweptEntries_length (own : Option Nat) (reserve : Nat) (entries : List Entry) :
    (sweptEntries own reserve entries).length = entries.length := by simp [sweptEntries]

/-- The sweep passes over the own entry (R61). -/
theorem getD_sweptEntries_own {own : Option Nat} (reserve : Nat) (entries : List Entry) {pad : Nat}
    (inside : pad < entries.length) (isOwn : own = some pad) :
    (sweptEntries own reserve entries).getD pad Entry.blank = entries.getD pad Entry.blank := by
  rw [sweptEntries, getD_mapIdx_entry _ _ _ (by simpa using inside), getD_agedEntries own entries inside]
  simp [sweptEntry, isOwn]

/-- One entry of a peer at the whole sweep, by whether a held mask names its pad (R61, R63, R64). -/
def Entry.swept (e : Entry) (named : Bool) (reserve : Nat) : Entry :=
  (e.aged.adopt named reserve).excessRemoved

/-- The sweep ages the entry of a peer, adopts or empties it by the held masks, and removes its excess. -/
theorem getD_sweptEntries_peer {own : Option Nat} (reserve : Nat) (entries : List Entry) {pad : Nat}
    (inside : pad < entries.length) (peer : own ≠ some pad) :
    (sweptEntries own reserve entries).getD pad Entry.blank
      = (entries.getD pad Entry.blank).swept (namedInMask (agedEntries own entries) pad) reserve := by
  rw [sweptEntries, getD_mapIdx_entry _ _ _ (by simpa using inside), getD_agedEntries own entries inside]
  simp [sweptEntry, Entry.swept, peer.symm]

@[simp] theorem State.noteHeldSet_view (s : State) (entries : List Entry) (pads : List Nat) :
    (s.noteHeldSet entries pads).view = s.view := by
  rw [State.noteHeldSet, State.foldl_raise]

/-- Adoption leaves the entries that are neither EMPTY nor ADOPTED (R63). -/
theorem Entry.adopt_of_known {e : Entry} (named : Bool) (reserve : Nat) (notEmpty : e.state ≠ .empty)
    (notAdopted : e.state ≠ .adopted) : e.adopt named reserve = e := by
  cases known : e.state with
  | empty => exact absurd known notEmpty
  | adopted => exact absurd known notAdopted
  | live | stale | held => simp [Entry.adopt, known]

/-- A HELD entry only grows older at the sweep (R61). -/
theorem Entry.swept_of_held {e : Entry} (named : Bool) (reserve : Nat) (held : e.state = .held) :
    e.swept named reserve = { e with age := some (min 255 (e.age.getD 0 + 1)), excess := none } := by
  have aged : e.aged = { e with age := some (min 255 (e.age.getD 0 + 1)) } := by simp [Entry.aged, held]
  rw [Entry.swept, aged, Entry.adopt_of_known _ _ (by simp [held]) (by simp [held])]
  rfl

/-- A HELD entry is HELD after the sweep (R61, R77). -/
theorem getD_sweptEntries_held (own : Option Nat) (reserve : Nat) {entries : List Entry} {pad : Nat}
    (inside : pad < entries.length) (held : (entries.getD pad Entry.blank).state = .held) :
    ((sweptEntries own reserve entries).getD pad Entry.blank).state = .held := by
  by_cases isOwn : own = some pad
  · rw [getD_sweptEntries_own reserve entries inside isOwn, held]
  · rw [getD_sweptEntries_peer reserve entries inside isOwn, Entry.swept_of_held _ _ held, held]

/-! ### Expected commits and PORT RESET (R66, R78) -/

/-- The expected-commit write leaves the state of an entry (R66). -/
theorem getD_withExpected_state (own : Option Nat) (rows : List ResultRow) {entries : List Entry} {pad : Nat}
    (inside : pad < entries.length) :
    ((withExpected own rows entries).getD pad Entry.blank).state = (entries.getD pad Entry.blank).state := by
  rw [withExpected, getD_mapIdx_entry _ _ _ inside]
  split <;> rfl

/-- A HELD entry loses its expected commit and its mismatch, and nothing else (R78). -/
theorem Entry.portReset_of_held {e : Entry} (held : e.state = .held) :
    e.portReset = { e with expected := none, mismatch := false, excess := none } := by
  simp [Entry.portReset, held]

/-- PORT RESET's access keeps a HELD entry HELD (R78). -/
theorem getD_map_portReset_held {entries : List Entry} {pad : Nat}
    (held : (entries.getD pad Entry.blank).state = .held) :
    ((entries.map Entry.portReset).getD pad Entry.blank).state = .held := by
  rw [← show Entry.blank.portReset = Entry.blank from rfl, List.getD_map, Entry.portReset_of_held held, held]

/-! ### RELEASE HELD (R74) -/

/-- What RELEASE HELD does with one pad (R74): nothing after a stop, at the own pad and at an EMPTY entry; it
empties a HELD or ADOPTED entry; it stops at a LIVE or STALE one. -/
theorem Release.act_cases (r : Release) (pad : Nat) :
    ((r.stoppedAt.isSome = true ∨ r.state.standing.pad = some pad
          ∨ (r.state.view.entry pad).state = .empty) ∧ r.act pad = r)
      ∨ (r.stoppedAt = none ∧ r.state.standing.pad ≠ some pad
          ∧ ((r.state.view.entry pad).state = .held ∨ (r.state.view.entry pad).state = .adopted)
          ∧ r.act pad = r.clear pad (r.state.view.entry pad))
      ∨ (r.stoppedAt = none ∧ r.state.standing.pad ≠ some pad
          ∧ ((r.state.view.entry pad).state = .live ∨ (r.state.view.entry pad).state = .stale)
          ∧ r.act pad = { r with stoppedAt := some pad }) := by
  have passes : (r.stoppedAt.isSome || some pad == r.state.standing.pad) = true
      ↔ r.stoppedAt.isSome = true ∨ r.state.standing.pad = some pad := by
    simp [@eq_comm _ (some pad)]
  by_cases passed : r.stoppedAt.isSome = true ∨ r.state.standing.pad = some pad
  · exact .inl ⟨passed.imp_right .inl, if_pos (passes.mpr passed)⟩
  · obtain ⟨going, peer⟩ := not_or.mp passed
    rw [Option.isSome_iff_ne_none, not_not] at going
    rw [Release.act, if_neg (mt passes.mp passed)]
    dsimp only
    cases (r.state.view.entry pad).state with
    | empty => exact .inl ⟨.inr (.inr rfl), rfl⟩
    | held => exact .inr (.inl ⟨going, peer, .inl rfl, rfl⟩)
    | adopted => exact .inr (.inl ⟨going, peer, .inr rfl, rfl⟩)
    | live => exact .inr (.inr ⟨going, peer, .inl rfl, rfl⟩)
    | stale => exact .inr (.inr ⟨going, peer, .inr rfl, rfl⟩)

/-- A release empties its entry and leaves the others. -/
theorem Release.clear_entry (r : Release) (pad : Nat) (e : Entry) (q : Nat) :
    (r.clear pad e).state.view.entry q = if q = pad then Entry.blank else r.state.view.entry q :=
  getD_set_blank r.state.view.entries pad q

/-- Whatever RELEASE HELD does, an entry is as it was or EMPTY. -/
theorem Release.foldl_act_entry (r : Release) (pads : List Nat) (q : Nat) :
    (pads.foldl Release.act r).state.view.entry q = r.state.view.entry q
      ∨ (pads.foldl Release.act r).state.view.entry q = Entry.blank := by
  induction pads generalizing r with
  | nil => exact .inl rfl
  | cons p pads ih =>
    rw [List.foldl_cons]
    have step : (r.act p).state.view.entry q = r.state.view.entry q
        ∨ (r.act p).state.view.entry q = Entry.blank := by
      obtain ⟨-, same⟩ | ⟨-, -, -, clears⟩ | ⟨-, -, -, stops⟩ := r.act_cases p
      · rw [same]; exact .inl rfl
      · rw [clears, Release.clear_entry]
        split
        · exact .inr rfl
        · exact .inl rfl
      · rw [stops]; exact .inl rfl
    obtain kept | emptied := ih (r.act p)
    · rw [kept]; exact step
    · exact .inr emptied

/-! ### HELD entries (R77) -/

section HeldEntries

variable {s t : State} {pad : Nat}

/-- CLAIM_FILED takes an entry out of HELD where it files a claim for its pad, and makes it LIVE. -/
theorem leavesHeld_of_execClaimFiled (h : execClaimFiled s = .next t)
    (held : (s.view.entry pad).state = .held) (leaves : (t.view.entry pad).state ≠ .held) :
    (∃ claim, s.line.register = some claim ∧ claim.pad = pad) ∧ (t.view.entry pad).state = .live := by
  obtain ⟨-, -, rfl⟩ | ⟨-, rfl⟩ := State.act_cases h
  · cases filed : s.line.register with
    | none => simp [filed, held] at leaves
    | some c =>
      simp only [filed] at leaves ⊢
      by_cases same : pad = c.pad
      · subst same
        rw [State.fileClaim_entry_same s c (View.lt_length_of_held held)]
        exact ⟨⟨c, rfl, rfl⟩, rfl⟩
      · rw [State.fileClaim_entry_of_ne s c same] at leaves
        exact absurd held leaves
  · exact absurd held leaves

theorem held_of_execSweep (h : execSweep s = .next t) (held : (s.view.entry pad).state = .held) :
    (t.view.entry pad).state = .held := by
  obtain ⟨-, -, rfl⟩ | ⟨-, rfl⟩ := State.act_cases h
  · exact getD_sweptEntries_held _ _ (View.lt_length_of_held held) held
  · exact held

theorem held_of_execExpectedCommitWrite (h : execExpectedCommitWrite s = .next t)
    (held : (s.view.entry pad).state = .held) : (t.view.entry pad).state = .held := by
  obtain ⟨-, -, rfl⟩ | ⟨-, rfl⟩ := State.act_cases h
  · exact (getD_withExpected_state _ _ (View.lt_length_of_held held)).trans held
  · exact held

theorem held_of_execPortResetViewAccess (h : execPortResetViewAccess s = .next t)
    (held : (s.view.entry pad).state = .held) : (t.view.entry pad).state = .held := by
  obtain ⟨-, -, rfl⟩ | ⟨-, rfl⟩ := State.act_cases h
  · exact getD_map_portReset_held held
  · exact held

/-- READ VIEW's access moves the cursor and leaves the entries (R72). -/
theorem entry_of_execReadViewAccess (h : execReadViewAccess s = .next t) :
    t.view.entry pad = s.view.entry pad := by
  obtain ⟨-, -, rfl⟩ | ⟨-, rfl⟩ := State.act_cases h
  · dsimp only
    split <;> rfl
  · rfl

theorem entry_of_execReleaseHeldAccess (h : execReleaseHeldAccess s = .next t) :
    t.view.entry pad = s.view.entry pad ∨ t.view.entry pad = Entry.blank := by
  obtain ⟨-, -, rfl⟩ | ⟨-, rfl⟩ := State.act_cases h
  · dsimp only
    split
    · exact Release.foldl_act_entry _ _ pad
    · exact .inl rfl
  · exact .inl rfl

/-- Power-on reset empties the table, where the condition is a reset at all (R76, R193). -/
theorem entry_of_execPowerOnReset {cause : ResetCondition} (h : execPowerOnReset cause s = .next t) :
    t.view.entry pad = s.view.entry pad ∨ t.view.entry pad = Entry.blank := by
  cases h
  split
  · exact .inr (by simp [State.powerOn, State.reset, View.powerOn, View.entry])
  · exact .inl rfl

end HeldEntries

/-- Settles O58: the commands that do not write the view leave it as it is, and of the seven that do, the sweep,
the expected-commit write, READ VIEW and PORT RESET's access keep a HELD entry HELD. -/
theorem heldEntriesLeaveHeldInThreeWays : Obligations.HeldEntriesLeaveHeldInThreeWays := by
  intro c s t pad h held leaves
  have emptied {P : Prop} (either : t.view.entry pad = s.view.entry pad ∨ P) : P :=
    either.resolve_left fun same => leaves (same ▸ held)
  cases writes : writesView c with
  | false => exact absurd (exec_view h writes ▸ held) leaves
  | true =>
    cases c with
    | powerOnReset cause => exact .inr (.inr ⟨⟨cause, rfl⟩, emptied (entry_of_execPowerOnReset h)⟩)
    | claimFiled =>
      obtain ⟨carried, live⟩ := leavesHeld_of_execClaimFiled h held leaves
      exact .inl ⟨rfl, carried, live⟩
    | releaseHeldAccess => exact .inr (.inl ⟨rfl, emptied (entry_of_execReleaseHeldAccess h)⟩)
    | sweep => exact absurd (held_of_execSweep h held) leaves
    | expectedCommitWrite => exact absurd (held_of_execExpectedCommitWrite h held) leaves
    | portResetViewAccess => exact absurd (held_of_execPortResetViewAccess h held) leaves
    | readViewAccess => exact absurd (entry_of_execReadViewAccess h ▸ held) leaves
    | _ => cases writes

end Sys2Proof.Machine
end

section
/-! The peer view (Chapter 4), second part: the sweep. -/

namespace Sys2Proof.Machine

/-! ### One entry at the sweep (Table 4-1) -/

section SweptEntry

variable {e : Entry} (named : Bool) (reserve : Nat)

/-- A heard LIVE entry starts to age, and reserves what its claim may draw (R61, R65). -/
theorem Entry.swept_of_heard (live : e.state = .live) (heard : e.heard = true) :
    e.swept named reserve =
      { e with
        heard := false, age := some 0, excess := none
        reserve := e.claim.map fun c => max c.draw c.commit } := by
  have aged : e.aged = { e with heard := false, age := some 0, reserve := e.claim.map Claim.load } := by
    simp [Entry.aged, live, heard]
  rw [Entry.swept, aged, Entry.adopt_of_known _ _ (by simp [live]) (by simp [live])]
  rfl

/-- A LIVE entry not heard becomes STALE at age 3 (R61). -/
theorem Entry.swept_of_unheard {a : Nat} (live : e.state = .live) (unheard : e.heard = false)
    (age : e.age = some a) :
    e.swept named reserve =
      { e with age := some (a + 1), excess := none, state := if a + 1 < 3 then .live else .stale } := by
  have aged : e.aged = { e with age := some (a + 1), state := if a + 1 < 3 then .live else .stale } := by
    simp [Entry.aged, live, unheard, age]
  rw [Entry.swept, aged, Entry.adopt_of_known]
  · rfl
  all_goals dsimp only; split <;> simp

/-- A STALE entry younger than 12 stays STALE (R61). -/
theorem Entry.swept_of_young {a : Nat} (stale : e.state = .stale) (age : e.age = some a) (young : a + 1 < 12) :
    e.swept named reserve = { e with age := some (a + 1), excess := none } := by
  have aged : e.aged = { e with age := some (a + 1) } := by simp [Entry.aged, stale, age, young]
  rw [Entry.swept, aged, Entry.adopt_of_known _ _ (by simp [stale]) (by simp [stale])]
  rfl

/-- A STALE entry of age 12 that reserves something becomes HELD (R61). -/
theorem Entry.swept_of_old {a r : Nat} (stale : e.state = .stale) (age : e.age = some a) (old : 12 ≤ a + 1)
    (reserves : e.reserve = some r) (some_reserve : 1 ≤ r) :
    e.swept named reserve = { e with age := some (a + 1), excess := none, state := .held } := by
  have aged : e.aged = { e with age := some (a + 1), state := .held } := by
    simp [Entry.aged, stale, age, reserves, some_reserve, Nat.not_lt.mpr old]
  rw [Entry.swept, aged, Entry.adopt_of_known _ _ (by simp) (by simp)]
  rfl

/-- A STALE entry of age 12 that reserves nothing is EMPTY before the adoption (R61). -/
theorem Entry.aged_of_expired {a : Nat} (stale : e.state = .stale) (age : e.age = some a) (old : 12 ≤ a + 1)
    (reserves : e.reserve = some 0) : e.aged = Entry.blank := by
  simp [Entry.aged, stale, age, reserves, Nat.not_lt.mpr old]

theorem Entry.aged_of_empty (empty : e.state = .empty) : e.aged = e := by simp [Entry.aged, empty]

theorem Entry.aged_of_adopted (adopted : e.state = .adopted) : e.aged = e := by simp [Entry.aged, adopted]

/-- An entry that is EMPTY after the aging is adopted where a held mask names its pad (R63). -/
theorem Entry.swept_of_aged_empty (empty : e.aged.state = .empty) :
    e.swept named reserve = if named then Entry.adoptedWith reserve else { e.aged with excess := none } := by
  cases named <;> simp [Entry.swept, Entry.adopt, empty, Entry.excessRemoved, Entry.adoptedWith, Entry.blank]

/-- An ADOPTED entry stays while a held mask names its pad, and is emptied otherwise (R63). -/
theorem Entry.swept_of_aged_adopted (adopted : e.aged.state = .adopted) :
    e.swept named reserve = if named then { e.aged with excess := none } else Entry.blank := by
  cases named <;> simp [Entry.swept, Entry.adopt, adopted, Entry.excessRemoved, Entry.blank]

/-- The adoption acts on EMPTY and ADOPTED entries, and leaves them EMPTY or ADOPTED (R63). -/
theorem Entry.swept_cases (e : Entry) :
    e.swept named reserve = { e.aged with excess := none }
      ∨ ((e.aged.state = .empty ∨ e.aged.state = .adopted)
        ∧ ((e.swept named reserve).state = .empty ∨ (e.swept named reserve).state = .adopted)) := by
  cases known : e.aged.state with
  | live | stale | held =>
    rw [Entry.swept, Entry.adopt_of_known _ _ (by simp [known]) (by simp [known])]
    exact .inl rfl
  | empty =>
    rw [Entry.swept_of_aged_empty _ _ known]
    cases named <;> simp [Entry.adoptedWith]
  | adopted =>
    rw [Entry.swept_of_aged_adopted _ _ known]
    cases named <;> simp [Entry.blank]

/-- The adoption makes no entry HELD, and takes none out of HELD. -/
theorem Entry.swept_held_iff (e : Entry) : (e.swept named reserve).state = .held ↔ e.aged.state = .held := by
  obtain same | ⟨before, after⟩ := e.swept_cases named reserve
  · rw [same]
  · grind

/-- The entry is LIVE with a claim whose held mask names the pad (R63). -/
def Entry.names (e : Entry) (pad : Nat) : Prop :=
  e.state = .live ∧ ∃ c, e.claim = some c ∧ c.heldMask.getLsbD pad = true

/-- The adoption leaves what the held masks name. -/
theorem Entry.swept_names_iff (e : Entry) (pad : Nat) :
    (e.swept named reserve).names pad ↔ e.aged.names pad := by
  obtain same | ⟨before, after⟩ := e.swept_cases named reserve
  · rw [same]
    rfl
  · grind [Entry.names]

end SweptEntry

/-! ### The whole sweep -/

theorem namedInMask_eq_any (entries : List Entry) (pad : Nat) :
    namedInMask entries pad =
      entries.any fun e => e.state == .live && e.claim.any fun c => c.heldMask.getLsbD pad := by
  refine congrArg entries.any (funext fun e => ?_)
  cases e.claim <;> rfl

/-- What the held masks name, as R63 says it. -/
theorem namedInMask_iff (entries : List Entry) (pad : Nat) :
    namedInMask entries pad = true ↔ ∃ q < entries.length, (entries.getD q Entry.blank).names pad := by
  simp only [namedInMask_eq_any, List.any_eq_true, Bool.and_eq_true, beq_iff_eq, Option.any_eq_true,
    List.mem_iff_getElem]
  constructor
  · rintro ⟨_, ⟨q, inside, rfl⟩, names⟩
    exact ⟨q, inside, by rwa [List.getD_eq_getElem _ _ inside]⟩
  · rintro ⟨q, inside, names⟩
    exact ⟨_, ⟨q, inside, rfl⟩, by rwa [List.getD_eq_getElem _ _ inside] at names⟩

/-- An entry names a pad after the whole sweep exactly where it does after the aging. -/
theorem sweptEntries_names_iff (own : Option Nat) (reserve : Nat) (entries : List Entry) (pad : Nat) {q : Nat}
    (inside : q < entries.length) :
    ((sweptEntries own reserve entries).getD q Entry.blank).names pad
      ↔ ((agedEntries own entries).getD q Entry.blank).names pad := by
  by_cases isOwn : own = some q
  · rw [getD_sweptEntries_own reserve entries inside isOwn, getD_agedEntries own entries inside,
      if_pos isOwn.symm]
  · rw [getD_sweptEntries_peer reserve entries inside isOwn, getD_agedEntries own entries inside,
      if_neg (Ne.symm isOwn), Entry.swept_names_iff]

/-- The held masks of the table after the sweep name what they name after the aging. -/
theorem namedInMask_agedEntries_iff (own : Option Nat) (reserve : Nat) (entries : List Entry) (pad : Nat) :
    namedInMask (agedEntries own entries) pad = true
      ↔ ∃ q < entries.length, ((sweptEntries own reserve entries).getD q Entry.blank).names pad := by
  rw [namedInMask_iff, agedEntries_length]
  exact exists_congr fun q => and_congr_right fun inside =>
    (sweptEntries_names_iff own reserve entries pad inside).symm

/-- An entry is HELD after the whole sweep exactly where it is after the aging. -/
theorem sweptEntries_held_iff (own : Option Nat) (reserve : Nat) (entries : List Entry) {pad : Nat}
    (inside : pad < entries.length) :
    ((sweptEntries own reserve entries).getD pad Entry.blank).state = .held
      ↔ ((agedEntries own entries).getD pad Entry.blank).state = .held := by
  by_cases isOwn : own = some pad
  · rw [getD_sweptEntries_own reserve entries inside isOwn, getD_agedEntries own entries inside,
      if_pos isOwn.symm]
  · rw [getD_sweptEntries_peer reserve entries inside isOwn, getD_agedEntries own entries inside,
      if_neg (Ne.symm isOwn), Entry.swept_held_iff]

/-- The pads of HELD_SET are those STALE before the sweep and HELD after it. -/
theorem newlyHeld_eq (own : Option Nat) (reserve : Nat) (entries : List Entry) :
    newlyHeld own entries =
      (List.range entries.length).filter fun pad =>
        (entries.getD pad Entry.blank).state == .stale
          && ((sweptEntries own reserve entries).getD pad Entry.blank).state == .held := by
  refine List.filter_congr fun pad inside => ?_
  congr 1
  rw [Bool.eq_iff_iff, beq_iff_eq, beq_iff_eq, sweptEntries_held_iff own reserve entries (List.mem_range.mp inside)]

/-- SWEEP on its grant: the swept table with its held set and counts, HELD_SET for each newly HELD pad, and
nothing else (R57, R61, R63, R64). -/
theorem exec_sweep {s : State} (held : s.resetHeld = false) (granted : s.store.grant = some .sweep) :
    exec .sweep s =
      .next
        { s with
          view := s.view.withEntries (sweptEntries s.standing.pad s.cfg.adoptionReserve s.view.entries)
          store := s.store.release
          notices :=
            ((newlyHeld s.standing.pad s.view.entries).map fun pad =>
              s.notice .heldSet (some pad) (some ((s.view.entry pad).reserve.getD 0))).foldl
              NoticeQueue.push s.notices } := by
  have taken : s.granted .sweep = true := by simp [State.granted, granted]
  unfold exec execSweep
  rw [State.act_taken _ held taken, State.noteHeldSet, State.foldl_raise]
  rfl

/-- SWEEP_POINT requests the store for the sweep, and nothing else (R22). -/
theorem exec_sweepPoint {s : State} (held : s.resetHeld = false) (due : s.due.sweepPoint = true) :
    exec .sweepPoint s =
      .next { s with due := { s.due with sweepPoint := false }, store := s.store.request .sweep } := by
  unfold exec execSweepPoint
  exact State.act_taken _ held due

/-- Settles O18: the aged and adopted table entry by entry, by the state and age it finds; the request by the
arbiter's state. -/
theorem sweepAgesAdoptsAndReleases : Obligations.SweepAgesAdoptsAndReleases := by
  refine ⟨fun s held granted length => ⟨_, exec_sweep held granted, ?length, ?own, ?peer, ?notices, rfl⟩,
    fun s held due => ⟨_, exec_sweepPoint held due, ?free, ?busy, rfl⟩⟩
  case length => simpa using length
  case own =>
    exact fun pad inside isOwn =>
      getD_sweptEntries_own s.cfg.adoptionReserve s.view.entries (length ▸ inside) isOwn
  case notices => rw [newlyHeld_eq _ s.cfg.adoptionReserve, length]; rfl
  case free => intro free; simp [Store.request, free]
  case busy =>
    intro busy
    obtain ⟨a, taken⟩ := Option.ne_none_iff_exists'.mp busy
    simp [Store.request, taken]
  case peer =>
    intro pad inside peer e e' named
    have swept : e' = e.swept (namedInMask (agedEntries s.standing.pad s.view.entries) pad)
        s.cfg.adoptionReserve :=
      getD_sweptEntries_peer s.cfg.adoptionReserve s.view.entries (length ▸ inside) peer
    have namedIff : namedInMask (agedEntries s.standing.pad s.view.entries) pad = true ↔ named := by
      rw [namedInMask_agedEntries_iff _ s.cfg.adoptionReserve, length]
      rfl
    clear_value e'
    subst swept
    refine ⟨rfl, Entry.swept_of_heard _ _, fun a => Entry.swept_of_unheard _ _,
      fun a => Entry.swept_of_young _ _, fun a r => Entry.swept_of_old _ _, ?held, ?stays, ?leaves, ?adopted, ?empty,
      ?expired⟩
    case held =>
      intro a known age
      rw [Entry.swept_of_held _ _ known, age]
      rfl
    case stays =>
      intro known isNamed
      rw [Entry.swept_of_aged_adopted _ _ (by rwa [Entry.aged_of_adopted known]), if_pos (namedIff.mpr isNamed),
        Entry.aged_of_adopted known]
    case leaves =>
      intro known notNamed
      rw [Entry.swept_of_aged_adopted _ _ (by rwa [Entry.aged_of_adopted known]),
        if_neg (mt namedIff.mp notNamed)]
    case adopted =>
      intro becomesEmpty isNamed
      have aged : e.aged.state = .empty := by
        obtain known | ⟨a, known, age, old, reserves⟩ := becomesEmpty
        · rwa [Entry.aged_of_empty known]
        · rw [Entry.aged_of_expired known age old reserves]; rfl
      rw [Entry.swept_of_aged_empty _ _ aged, if_pos (namedIff.mpr isNamed)]
      exact ⟨rfl, rfl, rfl, rfl, rfl⟩
    case empty =>
      intro known notNamed
      rw [Entry.swept_of_aged_empty _ _ (by rwa [Entry.aged_of_empty known]),
        if_neg (mt namedIff.mp notNamed), Entry.aged_of_empty known]
    case expired =>
      intro a known age old reserves notNamed
      have aged := Entry.aged_of_expired known age old reserves
      rw [Entry.swept_of_aged_empty _ _ (by rw [aged]; rfl), if_neg (mt namedIff.mp notNamed), aged]
      rfl

end Sys2Proof.Machine
end

section
/-! The peer view (Chapter 4), third part: RELEASE HELD. -/

namespace Sys2Proof.Machine

/-! ### Emptying entries one after the other -/

/-- The view after the entries of these pads have been emptied one by one. -/
def View.blanked (v : View) (pads : List Nat) : View :=
  pads.foldl (fun v pad => v.withEntries (v.entries.set pad Entry.blank)) v

theorem View.blanked_append (v : View) (pads : List Nat) (pad : Nat) :
    v.blanked (pads ++ [pad])
      = (v.blanked pads).withEntries ((v.blanked pads).entries.set pad Entry.blank) := by
  simp [View.blanked]

@[simp] theorem View.blanked_length (v : View) (pads : List Nat) :
    (v.blanked pads).entries.length = v.entries.length := by
  induction pads using List.reverseRecOn with
  | nil => rfl
  | append_singleton pads pad ih => simp [View.blanked_append, ih]

@[simp] theorem View.blanked_cursor (v : View) (pads : List Nat) : (v.blanked pads).cursor = v.cursor := by
  induction pads using List.reverseRecOn with
  | nil => rfl
  | append_singleton pads pad ih => simp [View.blanked_append, ih]

theorem View.blanked_entry (v : View) (pads : List Nat) (q : Nat) :
    (v.blanked pads).entry q = if q ∈ pads then Entry.blank else v.entry q := by
  induction pads using List.reverseRecOn with
  | nil => rfl
  | append_singleton pads pad ih =>
    rw [View.blanked_append, View.withEntries_entry, getD_set_blank, ← View.entry, ih]
    grind

/-- The held set and the counts are those of the table, once an entry has been emptied; the cursor stays. -/
theorem View.blanked_eq_withEntries (v : View) {pads : List Nat} (nonempty : pads ≠ []) :
    v.blanked pads = v.withEntries (v.blanked pads).entries := by
  induction pads using List.reverseRecOn with
  | nil => exact absurd rfl nonempty
  | append_singleton pads pad ih =>
    rw [View.blanked_append]
    by_cases first : pads = []
    · rw [first]; rfl
    · rw [ih first]; rfl

/-! ### The releases of a command -/

/-- RELEASE HELD empties the entry of this pad: a peer's, HELD or ADOPTED (R74). -/
def State.releases (s : State) (pad : Nat) : Bool :=
  s.standing.pad != some pad && ((s.view.entry pad).state == .held || (s.view.entry pad).state == .adopted)

/-- RELEASE HELD passes this pad without a stop: it is the own one, or its entry is neither LIVE nor STALE. -/
def State.passes (s : State) (pad : Nat) : Prop :=
  s.standing.pad = some pad ∨ ((s.view.entry pad).state ≠ .live ∧ (s.view.entry pad).state ≠ .stale)

/-- RELEASE HELD stops at this pad: a peer's, LIVE or STALE (R74). -/
def State.stops (s : State) (pad : Nat) : Prop :=
  s.standing.pad ≠ some pad ∧ ((s.view.entry pad).state = .live ∨ (s.view.entry pad).state = .stale)

/-- HELD_CLEARED for a pad, with the reserve of its entry (R74). -/
def State.heldCleared (s : State) (pad : Nat) : Notice :=
  s.notice .heldCleared (some pad) (some ((s.view.entry pad).reserve.getD 0))

/-- What has been done once the entries of these pads have been released, with no stop. -/
def State.releasing (s : State) (pads : List Nat) : Release :=
  { state :=
      { s with
        view := s.view.blanked pads
        notices := (pads.map s.heldCleared).foldl NoticeQueue.push s.notices }
    released := pads.length
    stoppedAt := none }

theorem State.releasing_entry (s : State) (pads : List Nat) (q : Nat) :
    (s.releasing pads).state.view.entry q = if q ∈ pads then Entry.blank else s.view.entry q :=
  s.view.blanked_entry pads q

/-- One release more. -/
theorem State.releasing_clear (s : State) (pads : List Nat) (pad : Nat) :
    (s.releasing pads).clear pad (s.view.entry pad) = s.releasing (pads ++ [pad]) := by
  simp [Release.clear, State.releasing, State.raise, State.heldCleared, View.blanked_append]

/-- The pads of a list that are released: each once, at its first place. -/
def State.releasedOf (s : State) (pads : List Nat) : List Nat := pads.eraseDups.filter s.releases

theorem State.mem_releasedOf {s : State} {pads : List Nat} {pad : Nat} :
    pad ∈ s.releasedOf pads ↔ pad ∈ pads ∧ s.releases pad = true := by
  simp [State.releasedOf]

/-- A pad joins the released ones where it is a new one and its entry is to be released. -/
theorem State.releasedOf_append (s : State) (pads : List Nat) (pad : Nat) :
    s.releasedOf (pads ++ [pad]) =
      if pad ∉ pads ∧ s.releases pad = true then s.releasedOf pads ++ [pad] else s.releasedOf pads := by
  by_cases old : pad ∈ pads <;> by_cases releases : s.releases pad = true <;>
    simp [State.releasedOf, List.eraseDups_append, List.eraseDups_cons, List.removeAll, old, releases]

/-- The pads before a stop are taken as R74 says: HELD and ADOPTED entries of peers are released, one that is
named again is EMPTY by then, and all the others are passed over. -/
theorem State.foldl_act_passing (s : State) {pads : List Nat} (pass : ∀ pad ∈ pads, s.passes pad) :
    pads.foldl Release.act (s.releasing []) = s.releasing (s.releasedOf pads) := by
  induction pads using List.reverseRecOn with
  | nil => rfl
  | append_singleton pads pad ih =>
    rw [List.foldl_append, ih fun q mem => pass q (by simp [mem]), List.foldl_cons, List.foldl_nil]
    have passing : s.passes pad := pass pad (by simp)
    have entry := s.releasing_entry (s.releasedOf pads) pad
    have notReleased (known : ((s.releasing (s.releasedOf pads)).state.view.entry pad).state ≠ .empty) :
        pad ∉ s.releasedOf pads := fun mem => known (by rw [entry, if_pos mem]; rfl)
    obtain ⟨skipped, same⟩ | ⟨-, peer, full, clears⟩ | ⟨-, peer, present, -⟩ :=
      (s.releasing (s.releasedOf pads)).act_cases pad
    · have kept : ¬(pad ∉ pads ∧ s.releases pad = true) := by
        rintro ⟨new, releases⟩
        rw [if_neg fun mem => new (State.mem_releasedOf.mp mem).1] at entry
        rw [entry] at skipped
        obtain stopped | own | empty := skipped
        · cases stopped
        · simp [State.releases, show s.standing.pad = some pad from own] at releases
        · simp [State.releases, empty] at releases
      rw [same, s.releasedOf_append, if_neg kept]
    · have new := notReleased (by obtain full | full := full <;> simp [full])
      rw [if_neg new] at entry
      rw [entry] at full clears
      have own : s.standing.pad ≠ some pad := peer
      have releases : s.releases pad = true := by simpa [State.releases, full] using own
      rw [clears, s.releasing_clear, s.releasedOf_append,
        if_pos ⟨fun old => new (State.mem_releasedOf.mpr ⟨old, releases⟩), releases⟩]
    · have new := notReleased (by obtain present | present := present <;> simp [present])
      rw [entry, if_neg new] at present
      obtain own | ⟨notLive, notStale⟩ := passing
      · exact absurd own peer
      · exact (present.elim notLive notStale).elim

/-- The first LIVE or STALE entry of a peer stops the command, whatever has been released before (R74). -/
theorem State.releasing_act_stops (s : State) (pads : List Nat) {pad : Nat} (stop : s.stops pad) :
    (s.releasing (s.releasedOf pads)).act pad
      = { s.releasing (s.releasedOf pads) with stoppedAt := some pad } := by
  obtain ⟨peer, present⟩ := stop
  have kept : pad ∉ s.releasedOf pads := fun mem => by
    have releases := (State.mem_releasedOf.mp mem).2
    obtain present | present := present <;> simp [State.releases, present] at releases
  have entry := s.releasing_entry (s.releasedOf pads) pad
  rw [if_neg kept] at entry
  obtain ⟨stopped | own | empty, -⟩ | ⟨-, -, full, -⟩ | ⟨-, -, -, stops⟩ :=
    (s.releasing (s.releasedOf pads)).act_cases pad
  · cases stopped
  · exact absurd own peer
  · rw [entry] at empty
    simp [empty] at present
  · rw [entry] at full
    obtain full | full := full <;> simp [full] at present
  · exact stops

/-- After a stop nothing more is done (R74). -/
theorem Release.foldl_act_stopped (r : Release) (pads : List Nat) (stopped : r.stoppedAt.isSome = true) :
    pads.foldl Release.act r = r := by
  induction pads with
  | nil => rfl
  | cons pad pads ih =>
    have same : r.act pad = r := by simp [Release.act, stopped]
    rw [List.foldl_cons, same, ih]

/-- The whole RELEASE HELD: the pads up to the first LIVE or STALE peer are taken, and that one stops it. -/
theorem State.releaseRanges_eq (s : State) {ranges : List (Nat × Nat)} {before rest : List Nat}
    (cut : padsOfRanges ranges = before ++ rest) (pass : ∀ pad ∈ before, s.passes pad)
    (stop : ∀ pad ∈ rest.head?, s.stops pad) :
    s.releaseRanges ranges = { s.releasing (s.releasedOf before) with stoppedAt := rest.head? } := by
  rw [State.releaseRanges, cut, List.foldl_append]
  change rest.foldl Release.act (before.foldl Release.act (s.releasing [])) = _
  rw [s.foldl_act_passing pass]
  cases rest with
  | nil => rfl
  | cons pad rest =>
    have stops := s.releasing_act_stops before (stop pad rfl)
    rw [List.foldl_cons, stops, Release.foldl_act_stopped _ _ rfl]
    rfl

/-! ### The access -/

/-- A waiting command that has been carried out is answered, or its response is lost (R176). -/
theorem State.answerWaiting_eq (s : State) {w : PortWait} (waits : s.port.waiting = some w) (frame : List Byte) :
    s.answerWaiting frame = { s with port := s.port.finishing w frame } := by
  obtain ⟨command, lost⟩ := w
  cases lost <;> simp [State.answerWaiting, waits]

/-- RELEASE_HELD_ACCESS on its grant, with the command that waits for it: what its ranges release, and the
answer (R74, R185). -/
theorem exec_releaseHeldAccess {s : State} {w : PortWait} {ranges : List (Nat × Nat)} {r : Release}
    (held : s.resetHeld = false) (granted : s.store.grant = some .releaseHeld)
    (waits : s.port.waiting = some w) (command : w.command = .releaseHeld ranges)
    (whole : s.releaseRanges ranges = r) (port : r.state.port = s.port) :
    exec .releaseHeldAccess s =
      .next { r.state with store := s.store.release, port := s.port.finishing w r.response } := by
  have taken : s.granted .releaseHeld = true := by simp [State.granted, granted]
  obtain ⟨_, lost⟩ := w
  subst command whole
  unfold exec execReleaseHeldAccess
  rw [State.act_taken _ held taken, waits]
  dsimp only
  rw [State.answerWaiting_eq]
  · dsimp only
    rw [port]
  · exact (congrArg Port.waiting port).trans waits

/-- Settles O21: the ranges' pads are cut at the first one that stops the command, the ones before it are taken
by induction, and the view, the notices and the response are those of the released ones. -/
theorem releaseHeldEmptiesUpToALivePad : Obligations.ReleaseHeldEmptiesUpToALivePad := by
  intro ranges w before rest s held granted waits command length cut pass stop releases released
  have whole : s.releaseRanges ranges = { s.releasing released with stoppedAt := rest.head? } :=
    s.releaseRanges_eq cut pass stop
  have run := exec_releaseHeldAccess held granted waits command whole rfl
  refine ⟨_, run, ?emptied, ?kept, ?length, rfl, ?port, ?unchanged, ?counts, ?frame⟩
  case emptied => exact fun pad _ mem => (s.releasing_entry released pad).trans (if_pos mem)
  case kept => exact fun pad _ kept => (s.releasing_entry released pad).trans (if_neg kept)
  case length => exact (s.view.blanked_length released).trans length
  case port => cases rest <;> rfl
  case unchanged => intro none; rw [none]; rfl
  case frame =>
    dsimp only
    congr 1
    exact View.ext rfl rfl rfl rfl rfl rfl (s.view.blanked_cursor released)
  case counts =>
    intro nonempty
    have view := s.view.blanked_eq_withEntries nonempty
    exact ⟨congrArg View.held view, congrArg View.liveCount view, congrArg View.staleCount view,
      congrArg View.heldCount view, congrArg View.adoptedCount view⟩

end Sys2Proof.Machine
end

section
/-! The limit unit (Chapter 5): what the fixed loads and reservations of a computation come to. -/

namespace Sys2Proof.Machine

/-! ### Sums over loads -/

@[simp] theorem feederLoad_nil : feederLoad [] = 0 := rfl

@[simp] theorem feederLoad_cons (l : BudgetLoad) (loads : List BudgetLoad) :
    feederLoad (l :: loads) = l.amount + feederLoad loads := by
  simp [feederLoad]

@[simp] theorem feederLoad_append (loads more : List BudgetLoad) :
    feederLoad (loads ++ more) = feederLoad loads + feederLoad more := by
  simp [feederLoad]

theorem feederLoad_flatMap {α : Type} (load : α → List BudgetLoad) (xs : List α) :
    feederLoad (xs.flatMap load) = (xs.map fun x => feederLoad (load x)).sum := by
  induction xs with
  | nil => rfl
  | cons x xs ih => simp [ih]

@[simp] theorem branchLoad_nil (branch : Nat) : branchLoad [] branch = 0 := rfl

/-- A load without a branch counts on every one (R90). -/
@[simp] theorem branchLoad_cons (l : BudgetLoad) (loads : List BudgetLoad) (branch : Nat) :
    branchLoad (l :: loads) branch =
      (if l.branch = none ∨ l.branch = some branch then l.amount else 0) + branchLoad loads branch := by
  by_cases counts : l.branch = none ∨ l.branch = some branch <;> simp [branchLoad, counts]

@[simp] theorem branchLoad_append (loads more : List BudgetLoad) (branch : Nat) :
    branchLoad (loads ++ more) branch = branchLoad loads branch + branchLoad more branch := by
  simp [branchLoad]

theorem branchLoad_flatMap {α : Type} (load : α → List BudgetLoad) (xs : List α) (branch : Nat) :
    branchLoad (xs.flatMap load) branch = (xs.map fun x => branchLoad (load x) branch).sum := by
  induction xs with
  | nil => rfl
  | cons x xs ih => simp [ih]

/-! ### What the own station counts (R88) -/

/-- The own station's amount: none as a participant, max(draw, commit) otherwise. -/
def Snapshot.ownAmount (snap : Snapshot) : Nat :=
  if snap.echo = .notSent ∨ snap.own.kind ≠ .active then max snap.own.draw snap.own.commit else 0

theorem Snapshot.ownLoad_cases (snap : Snapshot) (branch : Nat) :
    (snap.ownLoad branch = [] ∧ snap.ownAmount = 0)
      ∨ snap.ownLoad branch = [{ amount := snap.ownAmount, branch := some branch }] := by
  by_cases active : snap.own.kind = .active <;> cases echo : snap.echo <;>
    simp [Snapshot.ownLoad, Snapshot.ownAmount, Claim.load, active, echo]

@[simp] theorem Snapshot.feederLoad_ownLoad (snap : Snapshot) (branch : Nat) :
    feederLoad (snap.ownLoad branch) = snap.ownAmount := by
  obtain ⟨load, zero⟩ | load := snap.ownLoad_cases branch
  · rw [load, zero, feederLoad_nil]
  · simp [load]

@[simp] theorem Snapshot.branchLoad_ownLoad (snap : Snapshot) (ownBranch branch : Nat) :
    branchLoad (snap.ownLoad ownBranch) branch = if branch = ownBranch then snap.ownAmount else 0 := by
  obtain ⟨load, zero⟩ | load := snap.ownLoad_cases ownBranch
  · simp [load, zero]
  · simp [load, eq_comm]

/-! ### What an entry counts (R89, R90) -/

/-- An entry's amount beside its mismatch excess, by its claim and state. -/
def Entry.baseAmount (e : Entry) : Nat :=
  match e.claim with
  | some c =>
    if e.state = .live ∧ e.heard = true then (if c.kind = .active then 0 else max c.draw c.commit)
    else if e.state = .empty then 0
    else e.reserve.getD 0
  | none => if e.state = .adopted then e.reserve.getD 0 else 0

/-- An entry's mismatch excess where it holds a claim. -/
def Entry.excessAmount (e : Entry) : Nat :=
  if e.claim.isSome then e.excess.getD 0 else 0

/-- An entry counts nothing, or one amount: on every branch where it is ADOPTED, on its claim's otherwise. -/
theorem Entry.baseLoad_cases (e : Entry) :
    (e.baseLoad = [] ∧ e.baseAmount = 0)
      ∨ (e.state = .adopted ∧ e.baseLoad = [{ amount := e.baseAmount, branch := none }])
      ∨ (e.state ≠ .adopted ∧ ∃ c, e.claim = some c
          ∧ e.baseLoad = [{ amount := e.baseAmount, branch := some c.branch }]) := by
  cases claim : e.claim with
  | none => cases state : e.state <;> simp [Entry.baseLoad, Entry.baseAmount, claim, state]
  | some c =>
    cases state : e.state with
    | live =>
      by_cases heard : e.heard = true <;> by_cases active : c.kind = .active <;>
        simp [Entry.baseLoad, Entry.baseAmount, Claim.load, claim, state, heard, active]
    | _ => simp [Entry.baseLoad, Entry.baseAmount, claim, state]

theorem Entry.excessLoad_cases (e : Entry) :
    (e.excessLoad = [] ∧ e.excessAmount = 0)
      ∨ ∃ c, e.claim = some c ∧ e.excessLoad = [{ amount := e.excessAmount, branch := some c.branch }] := by
  cases claim : e.claim <;> cases excess : e.excess <;>
    simp [Entry.excessLoad, Entry.excessAmount, claim, excess]

@[simp] theorem Entry.feederLoad_baseLoad (e : Entry) : feederLoad e.baseLoad = e.baseAmount := by
  obtain ⟨load, zero⟩ | ⟨-, load⟩ | ⟨-, c, -, load⟩ := e.baseLoad_cases
  · rw [load, zero, feederLoad_nil]
  · simp [load]
  · simp [load]

@[simp] theorem Entry.feederLoad_excessLoad (e : Entry) : feederLoad e.excessLoad = e.excessAmount := by
  obtain ⟨load, zero⟩ | ⟨c, -, load⟩ := e.excessLoad_cases
  · rw [load, zero, feederLoad_nil]
  · simp [load]

@[simp] theorem Entry.branchLoad_baseLoad (e : Entry) (branch : Nat) :
    branchLoad e.baseLoad branch =
      if e.state = .adopted ∨ e.claim.map Claim.branch = some branch then e.baseAmount else 0 := by
  obtain ⟨load, zero⟩ | ⟨adopted, load⟩ | ⟨notAdopted, c, claim, load⟩ := e.baseLoad_cases
  · simp [load, zero]
  · simp [load, adopted]
  · simp [load, notAdopted, claim]

@[simp] theorem Entry.branchLoad_excessLoad (e : Entry) (branch : Nat) :
    branchLoad e.excessLoad branch =
      if e.claim.map Claim.branch = some branch then e.excessAmount else 0 := by
  obtain ⟨load, zero⟩ | ⟨c, claim, load⟩ := e.excessLoad_cases
  · simp [load, zero]
  · simp [load, claim]

/-! ### What a computation counts (R91) -/

/-- Every load of a computation counts on the feeder. -/
theorem Snapshot.feederLoad_loads (snap : Snapshot) (ownBranch : Nat) :
    feederLoad (snap.loads ownBranch) =
      snap.ownAmount + (snap.entries.map fun e => e.baseAmount + e.excessAmount).sum := by
  simp [Snapshot.loads, feederLoad_flatMap]

/-- A branch counts the own station and the entries that stand on it, and every ADOPTED entry. -/
theorem Snapshot.branchLoad_loads (snap : Snapshot) (ownBranch branch : Nat) :
    branchLoad (snap.loads ownBranch) branch =
      (if branch = ownBranch then snap.ownAmount else 0)
        + (snap.entries.map fun e =>
            (if e.state = .adopted ∨ e.claim.map Claim.branch = some branch then e.baseAmount else 0)
              + (if e.claim.map Claim.branch = some branch then e.excessAmount else 0)).sum := by
  simp only [Snapshot.loads, branchLoad_append, branchLoad_flatMap, Snapshot.branchLoad_ownLoad,
    Entry.branchLoad_baseLoad, Entry.branchLoad_excessLoad]

/-- Settles O25: the loads are the own station's and each entry's, each of which is at most one base load and
one excess load; the sums on the feeder and on a branch follow load by load. -/
theorem loadsAreFixedLoadsAndReservations : Obligations.LoadsAreFixedLoadsAndReservations :=
  fun snap ownBranch => ⟨snap.feederLoad_loads ownBranch, snap.branchLoad_loads ownBranch⟩

end Sys2Proof.Machine
end

section
/-! The share computation (Chapter 6): the bounds of each share (R108). -/

namespace Sys2Proof.Machine

/-! ### Participants (R96) -/

/-- The participant of one pad, if it has one. -/
def Snapshot.participantAt (snap : Snapshot) (own : Option Nat) (branch pad : Nat) : Option Participant :=
  if some pad = own then snap.ownParticipant pad branch
  else (snap.entries.getD pad Entry.blank).participant pad

theorem Snapshot.participants_eq (snap : Snapshot) (own : Option Nat) (branch : Nat) :
    snap.participants own branch = (List.range Config.pads).filterMap (snap.participantAt own branch) :=
  rfl

theorem Snapshot.pad_of_ownParticipant {snap : Snapshot} {pad branch : Nat} {p : Participant}
    (h : snap.ownParticipant pad branch = some p) : p.pad = pad := by
  obtain ⟨-, found⟩ := Option.ite_none_right_eq_some.mp h
  exact congrArg Participant.pad (Option.some.inj found.symm)

theorem Entry.pad_of_participant {e : Entry} {pad : Nat} {p : Participant}
    (h : e.participant pad = some p) : p.pad = pad := by
  unfold Entry.participant at h
  split at h
  · obtain ⟨-, found⟩ := Option.ite_none_right_eq_some.mp h
    exact congrArg Participant.pad (Option.some.inj found.symm)
  · cases h

theorem Snapshot.pad_of_participantAt {snap : Snapshot} {own : Option Nat} {branch pad : Nat}
    {p : Participant} (h : snap.participantAt own branch pad = some p) : p.pad = pad := by
  unfold Snapshot.participantAt at h
  split at h
  · exact Snapshot.pad_of_ownParticipant h
  · exact Entry.pad_of_participant h

theorem Snapshot.mem_participants {snap : Snapshot} {own : Option Nat} {branch : Nat} {p : Participant} :
    p ∈ snap.participants own branch ↔ p.pad < Config.pads ∧ snap.participantAt own branch p.pad = some p := by
  simp only [Snapshot.participants_eq, List.mem_filterMap, List.mem_range]
  constructor
  · rintro ⟨pad, inside, at_pad⟩
    obtain rfl := Snapshot.pad_of_participantAt at_pad
    exact ⟨inside, at_pad⟩
  · exact fun ⟨inside, at_pad⟩ => ⟨p.pad, inside, at_pad⟩

/-- A pad has at most one participant. -/
theorem Snapshot.participants_pad_inj {snap : Snapshot} {own : Option Nat} {branch : Nat}
    {p q : Participant} (hp : p ∈ snap.participants own branch) (hq : q ∈ snap.participants own branch)
    (same : p.pad = q.pad) : p = q := by
  obtain ⟨-, hp⟩ := Snapshot.mem_participants.mp hp
  obtain ⟨-, hq⟩ := Snapshot.mem_participants.mp hq
  rw [same] at hp
  exact Option.some.inj (hp.symm.trans hq)

/-! ### A fill (R99 to R102) -/

@[simp] theorem FillMember.freezeAt_part (m : FillMember) (level : Nat) : (m.freezeAt level).part = m.part :=
  rfl

@[simp] theorem FillMember.freezeAt_result (m : FillMember) (level : Nat) :
    (m.freezeAt level).result = m.shareAt level :=
  rfl

/-- The share at a level stays within the request where a share frozen before does (R99). -/
theorem FillMember.shareAt_le_request {m : FillMember} (h : m.result ≤ m.part.request) (level : Nat) :
    m.shareAt level ≤ m.part.request := by
  obtain ⟨part, _ | share⟩ := m
  · exact min_le_left _ _
  · exact h

section Freezing

variable {P : FillMember → Prop} (freeze : ∀ m level, P m → P (m.freezeAt level)) {ms : List FillMember}
include freeze

theorem forall_mem_freezeAll (level : Nat) (start : ∀ m ∈ ms, P m) :
    ∀ m ∈ ms.map (FillMember.freezeAt level), P m :=
  List.forall_mem_map.mpr fun m hm => freeze m level (start m hm)

theorem forall_mem_freezeBranches (b : Budgets) (level : Nat) (start : ∀ m ∈ ms, P m) :
    ∀ m ∈ freezeBranches b ms level, P m := by
  refine List.forall_mem_map.mpr fun m hm => ?_
  split
  · exact freeze m level (start m hm)
  · exact start m hm

/-- What every member has at the start of a fill and keeps when it is frozen, every member has at its end. -/
theorem forall_mem_fillStages (b : Budgets) (fuel : Nat) (start : ∀ m ∈ ms, P m) :
    ∀ m ∈ (fillStages b fuel ms).2, P m := by
  induction fuel generalizing ms with
  | zero => exact forall_mem_freezeAll freeze _ start
  | succ fuel ih =>
    unfold fillStages
    dsimp only
    split_ifs
    · exact forall_mem_freezeAll freeze _ start
    · exact forall_mem_freezeAll freeze _ start
    · exact forall_mem_freezeBranches freeze b _ start
    · exact ih (forall_mem_freezeBranches freeze b _ start)

end Freezing

/-- A fill ends with its own participants, each within its request. -/
theorem runFill_members {b : Budgets} {ps : List Participant} {m : FillMember} (hm : m ∈ (runFill b ps).2) :
    m.part ∈ ps ∧ m.result ≤ m.part.request := by
  unfold runFill at hm
  split at hm
  · cases hm
  · refine forall_mem_fillStages (P := fun m => m.part ∈ ps ∧ m.result ≤ m.part.request) ?_ b _ ?_ m hm
    · intro m level ⟨part, within⟩
      rw [FillMember.freezeAt_part, FillMember.freezeAt_result]
      exact ⟨part, FillMember.shareAt_le_request within level⟩
    · exact List.forall_mem_map.mpr fun p hp => ⟨hp, Nat.zero_le _⟩

/-! ### Floor exclusion (R104 to R107) -/

/-- The members of an outcome are participants of its computation within their requests, and whoever is not
excluded has reached its floor. -/
def FillOutcome.sound (out : FillOutcome) (ps : List Participant) : Prop :=
  ∀ m ∈ out.members, m.part ∈ ps ∧ m.result ≤ m.part.request
    ∧ (m.part.pad ∉ out.excluded → m.part.floor ≤ m.result)

theorem FillOutcome.sound.of_subset {out : FillOutcome} {ps qs : List Participant} (h : out.sound ps)
    (sub : ps ⊆ qs) : out.sound qs := fun m hm =>
  have ⟨part, bounds⟩ := h m hm
  ⟨sub part, bounds⟩

theorem mem_belowFloorOf {ms : List FillMember} {m : FillMember} (hm : m ∈ ms)
    (below : m.result < m.part.floor) : m.part ∈ belowFloorOf ms :=
  List.mem_map_of_mem (List.mem_filter.mpr ⟨hm, decide_eq_true below⟩)

/-- A fill is the last one, which excludes all that it leaves below their floors, or the next one follows over
those that it does not exclude. -/
theorem runFills_succ_cases (b : Budgets) (left : Nat) (ps : List Participant) (excluded : List Nat) :
    ((runFills b (left + 1) ps excluded).members = (runFill b ps).2
        ∧ (runFills b (left + 1) ps excluded).excluded =
          excluded ++ (belowFloorOf (runFill b ps).2).map Participant.pad)
      ∨ ∃ gone : List Nat, runFills b (left + 1) ps excluded =
          runFills b left (ps.filter fun p => !gone.contains p.pad) (excluded ++ gone) := by
  by_cases last : ((belowFloorOf (runFill b ps).2).isEmpty || left == 0) = true
  · exact .inl ⟨congrArg FillOutcome.members (if_pos last), congrArg FillOutcome.excluded (if_pos last)⟩
  · exact .inr ⟨_, if_neg last⟩

theorem runFills_sound (b : Budgets) (left : Nat) (ps : List Participant) (excluded : List Nat) :
    (runFills b left ps excluded).sound ps := by
  induction left generalizing ps excluded with
  | zero => exact fun m hm => nomatch hm
  | succ left ih =>
    obtain ⟨members, exclusions⟩ | ⟨gone, next⟩ := runFills_succ_cases b left ps excluded
    · intro m hm
      rw [members] at hm
      rw [exclusions]
      obtain ⟨part, within⟩ := runFill_members hm
      refine ⟨part, within, fun kept => not_lt.mp fun below => kept ?_⟩
      exact List.mem_append_right _ (List.mem_map_of_mem (mem_belowFloorOf hm below))
    · rw [next]
      exact (ih _ _).of_subset (List.filter_subset_self _)

theorem fillsOf_sound (b : Budgets) (ps : List Participant) : (fillsOf b ps).sound ps :=
  (runFills_sound b _ _ _).of_subset (List.filter_subset_self _)

/-! ### The result rows (R108, R109) -/

@[simp] theorem FillOutcome.row_pad (out : FillOutcome) (p : Participant) : (out.row p).pad = p.pad := by
  unfold FillOutcome.row
  split_ifs <;> rfl

@[simp] theorem FillOutcome.row_branch (out : FillOutcome) (p : Participant) :
    (out.row p).branch = p.branch := by
  unfold FillOutcome.row
  split_ifs <;> rfl

/-- A row's share is 0, or that of a member on the row's pad, which is not excluded. -/
theorem FillOutcome.row_share_cases (out : FillOutcome) (p : Participant) :
    (out.row p).share = 0
      ∨ p.pad ∉ out.excluded ∧ ∃ m ∈ out.members, m.part.pad = p.pad ∧ (out.row p).share = m.result := by
  unfold FillOutcome.row
  split_ifs with aside gone
  · exact .inl rfl
  · exact .inl rfl
  · cases found : out.members.find? fun m => m.part.pad == p.pad with
    | none => exact .inl rfl
    | some m =>
      have onPad : m.part.pad = p.pad := by simpa using List.find?_some found
      exact .inr ⟨by simpa using gone, m, List.mem_of_find?_eq_some found, onPad, rfl⟩

/-- R108 for one participant: the member on its pad is the participant itself. -/
theorem FillOutcome.row_share_bounds {out : FillOutcome} {ps : List Participant} (sound : out.sound ps)
    (inj : ∀ p ∈ ps, ∀ q ∈ ps, p.pad = q.pad → p = q) {p : Participant} (hp : p ∈ ps) :
    (out.row p).share = 0 ∨ (p.floor ≤ (out.row p).share ∧ (out.row p).share ≤ p.request) := by
  obtain zero | ⟨kept, m, hm, onPad, share⟩ := out.row_share_cases p
  · exact .inl zero
  · obtain ⟨part, within, floor⟩ := sound m hm
    obtain rfl := inj m.part part p hp onPad
    rw [share]
    exact .inr ⟨floor kept, within⟩

/-! ### COMPLETION (R109, R110) -/

/-- COMPLETION of a computation with a snapshot publishes its results. -/
theorem exec_completion {s : State} {snap : Snapshot} (held : s.resetHeld = false)
    (computing : s.share.phase = .computing) (taken : s.share.snapshot = some snap) :
    exec .completion s = .next (s.complete snap) := by
  unfold exec execCompletion
  rw [State.act_taken _ held (by rw [computing]; rfl), taken]

/-- Settles O27: a row's share is 0 or that of a member of the last fill, which is the row's participant, within
its request, and at its floor or above since it is not excluded. -/
theorem eachShareIsZeroOrBetweenFloorAndRequest :
    Obligations.EachShareIsZeroOrBetweenFloorAndRequest := by
  intro snap s held computing taken
  refine ⟨s.complete snap, exec_completion held computing taken, fun row hrow => ?_⟩
  obtain ⟨p, hp, rfl⟩ := List.mem_map.mp hrow
  refine ⟨p, hp, (FillOutcome.row_pad _ p).symm, (FillOutcome.row_branch _ p).symm, ?_⟩
  exact FillOutcome.row_share_bounds (fillsOf_sound _ _)
    (fun _ hp _ hq => Snapshot.participants_pad_inj hp hq) hp

end Sys2Proof.Machine
end

section
/-! The apply unit (Chapter 7): the applied setpoint by its cases, and what APPLY_POINT and SPCHG_PULSE_END
change. -/

namespace Sys2Proof.Machine

/-! ### The cases of the applied setpoint (R121 to R125) -/

/-- The zero demand of R121: the session is in STOPPING or FAULT. -/
theorem SessionState.zeroDemand_iff (st : SessionState) :
    st.zeroDemand = true ↔ st = .stopping ∨ st = .fault := by
  cases st <;> simp [SessionState.zeroDemand]

/-- R121: CONFLICT, STOPPING and FAULT force the applied setpoint to 0, and nothing else does. -/
theorem State.forcedZero_iff (s : State) :
    s.forcedZero = true
      ↔ s.standing.state = .conflict ∨ s.session.state = .stopping ∨ s.session.state = .fault := by
  rw [State.forcedZero, Bool.or_eq_true, beq_iff_eq, SessionState.zeroDemand_iff]

theorem echoedCommit_eq (echo : Echo) (commit previous : Nat) :
    echoedCommit echo commit previous = if echo = .good then commit else previous := by
  cases echo <;> rfl

section AppliedSetpoint

variable {s : State}

/-- R121: a forced zero stays 0 under the ceilings. -/
theorem State.appliedNow_of_forced (forced : s.forcedZero = true) : s.appliedNow = 0 := by
  simp [State.appliedNow, appliedByCase, forced]

/-- R122: the echo ceiling is the commit itself, which already bounds the case's value. -/
theorem State.appliedNow_of_good (unforced : ¬s.forcedZero = true) (echo : s.line.echo = .good) :
    s.appliedNow =
      min (min s.share.published.applyShare s.applyUnit.lastCommit) s.cfg.chargerRating := by
  simp [State.appliedNow, appliedByCase, echoedCommit, unforced, echo]

/-- R123: the own share and the last echoed commit bound the setpoint that stood. -/
theorem State.appliedNow_of_failed (unforced : ¬s.forcedZero = true) (echo : s.line.echo = .failed) :
    s.appliedNow =
      min (min (min s.share.published.applyShare s.applyUnit.applied) s.applyUnit.lastEchoed)
        s.cfg.chargerRating := by
  simp [State.appliedNow, appliedByCase, echoedCommit, unforced, echo]

/-- R124: with no own frame the setpoint that stood stays, under the ceilings. -/
theorem State.appliedNow_of_notSent (unforced : ¬s.forcedZero = true) (echo : s.line.echo = .notSent) :
    s.appliedNow = min (min s.applyUnit.applied s.applyUnit.lastEchoed) s.cfg.chargerRating := by
  simp [State.appliedNow, appliedByCase, echoedCommit, unforced, echo]

end AppliedSetpoint

/-! ### APPLY_POINT and SPCHG_PULSE_END (R120, R126, R128, R148) -/

/-- The state after an apply point. -/
def State.atApply (s : State) : State :=
  { s with
    due := { s.due with apply := false }
    applyUnit :=
      { s.applyUnit with
        applied := s.appliedNow
        lastEchoed := echoedCommit s.line.echo s.applyUnit.lastCommit s.applyUnit.lastEchoed
        grant := if s.share.published.ownParticipant then s.share.published.applyShare else s.appliedNow
        spchg := s.appliedNow != s.applyUnit.applied }
    seq := { s.seq with openTimeout := if 0 < s.appliedNow then 0 else s.seq.openTimeout } }

/-- APPLY_POINT is taken where it is due. -/
theorem exec_applyPoint {s : State} (held : s.resetHeld = false) (due : s.due.apply = true) :
    exec .applyPoint s = .next s.atApply := by
  unfold exec execApplyPoint
  exact State.act_taken _ held due

/-- SPCHG_PULSE_END is taken where it is due, and ends the pulse. -/
theorem exec_spchgPulseEnd {s : State} (held : s.resetHeld = false) (due : s.due.spchgEnd = true) :
    exec .spchgPulseEnd s =
      .next { s with
        due := { s.due with spchgEnd := false }, applyUnit := { s.applyUnit with spchg := false } } := by
  unfold exec execSpchgPulseEnd
  exact State.act_taken _ held due

/-- Settles O30: the applied setpoint by its cases, the four registers that an apply point writes, and the end
of the pulse. -/
theorem applyPointSetsTheSetpointByCase : Obligations.ApplyPointSetsTheSetpointByCase := by
  refine ⟨fun s held due => ?_, fun s held due => exec_spchgPulseEnd held due⟩
  simp only [← s.forcedZero_iff]
  refine ⟨s.atApply, exec_applyPoint held due, State.appliedNow_of_forced, State.appliedNow_of_good,
    State.appliedNow_of_failed, State.appliedNow_of_notSent, ?echoed, rfl, ?pulse, rfl, rfl⟩
  case echoed => exact echoedCommit_eq _ _ _
  case pulse => exact bne_iff_ne

end Sys2Proof.Machine
end

section
/-! The weight of the own claim (R171), and where a load puts it. -/

namespace Sys2Proof.Machine

/-! ### The parts of the weight (R171) -/

/-- The model's quotient is the rational one rounded up, since both lie at or below a number under the same
condition. -/
theorem requiredTime_eq_ceil (energyNeeded : Nat) {power : Nat} (powered : 0 < power) :
    requiredTime energyNeeded power = min 65535 ⌈(energyNeeded * 360 : ℚ) / power⌉₊ := by
  have roundsUp : (energyNeeded * 360 + power - 1) / power = ⌈(energyNeeded * 360 : ℚ) / power⌉₊ := by
    refine eq_of_forall_ge_iff fun seconds => ?_
    have positive : (0 : ℚ) < power := by exact_mod_cast powered
    rw [← Nat.ceilDiv_eq_add_pred_div, ceilDiv_le_iff_le_mul powered, Nat.ceil_le, div_le_iff₀ positive,
      mul_comm power]
    norm_cast
  rw [requiredTime, roundsUp]

/-- The slack table, with each limit as a departure measured from the required time. -/
theorem baseWeight_sub (departure required : Nat) :
    baseWeight ((departure : Int) - (required : Int)) =
      if departure ≤ required then 15
      else if departure ≤ required + 30 then 13
      else if departure ≤ required + 120 then 11
      else if departure ≤ required + 300 then 8
      else if departure ≤ required + 900 then 5
      else 3 := by
  have within (limit : Nat) :
      (departure : Int) - required ≤ limit ↔ departure ≤ required + limit := by omega
  have spent : (departure : Int) - required ≤ 0 ↔ departure ≤ required := within 0
  simp only [baseWeight, spent, ← within, Nat.cast_ofNat]

theorem baseWeight_bounds (slack : Int) : 3 ≤ baseWeight slack ∧ baseWeight slack ≤ 15 := by
  unfold baseWeight
  split_ifs <;> decide

/-- The base weight of a record: the slack table, or 2 where the departure is absent (R171). -/
def Record.baseWeight (r : Record) (power : Nat) : Nat :=
  match r.departure with
  | some d => Machine.baseWeight ((d : Int) - (requiredTime r.energyNeeded power : Int))
  | none => 2

theorem Record.baseWeight_bounds (r : Record) (power : Nat) :
    2 ≤ r.baseWeight power ∧ r.baseWeight power ≤ 15 := by
  unfold Record.baseWeight
  split
  next d _ =>
    have table := Machine.baseWeight_bounds ((d : Int) - (requiredTime r.energyNeeded power : Int))
    omega
  next => decide

/-! ### The weight of a record (R171) -/

/-- The weight is 1 without power; otherwise URGENT adds 2 to the base, up to 15. -/
theorem recordWeight_eq (r : Record) (power : Nat) :
    recordWeight r power =
      if power = 0 then 1
      else if r.vehicleClass = some .urgent then min 15 (r.baseWeight power + 2)
      else r.baseWeight power := by
  unfold recordWeight
  refine if_congr Iff.rfl rfl ?_
  match r.vehicleClass with
  | some .urgent => rfl
  | some .normal => rfl
  | none => rfl

theorem recordWeight_bounds (r : Record) (power : Nat) :
    1 ≤ recordWeight r power ∧ recordWeight r power ≤ 15 := by
  have base := r.baseWeight_bounds power
  rw [recordWeight_eq]
  split_ifs <;> omega

/-! ### The load (R12, Table 1-3) -/

/-- OWN_SLOT_START writes the own claim into the pending half, sent or not. -/
theorem exec_ownSlotStart_loads {s : State} (held : s.resetHeld = false) (due : s.due.ownSlot = true) :
    ∃ t, exec .ownSlotStart s = .next t ∧ t.line.pending = s.loadedHalf := by
  unfold exec execOwnSlotStart
  refine ⟨_, State.act_taken _ held due, ?_⟩
  dsimp only
  split_ifs <;> rfl

/-- The weight field of a CONNECTED session is the record's weight for R_session. -/
theorem State.sessionWeight_of_connected {s : State} {r : Record} (connected : s.session.state = .connected)
    (record : s.session.record = some r) :
    s.sessionWeight = recordWeight r (min r.maxAccept s.cfg.chargerRating) := by
  simp [State.sessionWeight, State.sessionPower, kindOfSession, connected, record]

/-- Settles O14: the load carries the record's weight, which is the slack table's base with the class on
top. -/
theorem weightFollowsTheSlack : Obligations.WeightFollowsTheSlack := by
  refine ⟨fun r s held due connected record => ?load, fun r power => ⟨?weight, recordWeight_bounds r power⟩⟩
  case load =>
    obtain ⟨t, taken, pending⟩ := exec_ownSlotStart_loads held due
    refine ⟨t, taken, ?_, ?_⟩
    · simp [pending, State.loadedHalf, State.ownClaim, kindOfSession, connected]
    · rw [pending]
      exact State.sessionWeight_of_connected connected record
  case weight =>
    rw [recordWeight_eq]
    obtain unpowered | powered := Nat.eq_zero_or_pos power
    · rw [if_pos unpowered, if_pos unpowered]
    · rw [← requiredTime_eq_ceil r.energyNeeded powered, Record.baseWeight]
      cases r.departure with
      | none => rfl
      | some d => simp only [baseWeight_sub]

end Sys2Proof.Machine
end

section
/-! The charger port (Chapters 10 and 11): what a complete frame does when no check refuses it, REPORT, and
READ NOTICE. -/

namespace Sys2Proof.Machine

/-! ### A frame that no check refuses (R177) -/

/-- A complete frame raises the command of its code byte. -/
theorem State.frameReady_of_taking {s : State} {code : Byte} {ps : List Byte} (frame : s.taking code ps) :
    s.frameReady code = true := by
  obtain ⟨-, -, ready⟩ := frame
  simp [State.frameReady, ready]

/-- A frame at a port that is not busy, with a good length and configured where the command needs it, is taken,
and the command's own part runs on its parameters. -/
theorem State.takeFrame_passes {s : State} {code : Byte} {ps : List Byte} {lengthOk : List Byte → Bool}
    {needsSetup : Bool} (run : List Byte → State → State) (frame : s.taking code ps)
    (length : lengthOk ps = true) (setup : needsSetup = true → s.configured = true) :
    s.takeFrame lengthOk needsSetup run = run ps { s with port := s.port.taken } := by
  obtain ⟨-, idle, ready⟩ := frame
  have configured : (needsSetup && !s.configured) = false := by
    cases needsSetup with
    | false => rfl
    | true => simp [setup rfl]
  simp [State.takeFrame, Port.taken, ready, idle, length, configured]

/-- A port command whose frame no check refuses has its own effect. -/
theorem State.act_takeFrame {s : State} {code : Byte} {ps : List Byte} {lengthOk : List Byte → Bool}
    {needsSetup : Bool} (run : List Byte → State → State) (frame : s.taking code ps)
    (length : lengthOk ps = true) (setup : needsSetup = true → s.configured = true) :
    (s.act (s.frameReady code) fun s => s.takeFrame lengthOk needsSetup run) =
      .next (run ps { s with port := s.port.taken }) := by
  rw [State.act_taken _ frame.1 (State.frameReady_of_taking frame),
    State.takeFrame_passes run frame length setup]

/-! ### REPORT (R165, R179) -/

/-- The two bytes of a number read from two bytes are those bytes. -/
theorem byte2_of_bytes (high low : Byte) : byte2 (256 * high.toNat + low.toNat) = [high, low] := by
  have low_lt := low.isLt
  have quotient : (256 * high.toNat + low.toNat) / 256 = high.toNat := by omega
  have lowByte : BitVec.ofNat 8 (256 * high.toNat + low.toNat) = low := by
    apply BitVec.eq_of_toNat_eq
    rw [BitVec.toNat_ofNat]
    omega
  rw [byte2, quotient, lowByte, BitVec.ofNat_toNat, BitVec.setWidth_eq]

/-- The response of a REPORT: the two bytes as they came, or the clamp bit and 1023. -/
theorem clampedResponse_report (high low : Byte) :
    clampedResponse (flagBit 0 (decide (1023 < param2 [high, low] 0))) (byte2 (reportedPower [high, low])) =
      if 256 * high.toNat + low.toNat ≤ 1023 then [0x80, 2, high, low] else [0x81, 4, 0, 1, 3, 0xFF] := by
  have power : param2 [high, low] 0 = 256 * high.toNat + low.toNat := rfl
  rw [reportedPower, power]
  split_ifs with within
  · rw [min_eq_right within, byte2_of_bytes, decide_eq_false (not_lt.2 within)]
    rfl
  · rw [min_eq_left (le_of_not_ge within), decide_eq_true (not_le.1 within)]
    rfl

/-- REPORT with its two bytes, after SETUP, takes the power they give and answers. -/
theorem exec_report {s : State} {high low : Byte} (frame : s.taking 0x02 [high, low])
    (configured : s.configured = true) :
    exec .report s = .next (State.takeReport { s with port := s.port.taken } [high, low]) := by
  unfold exec execReport
  exact State.act_takeFrame _ frame rfl fun _ => configured

/-- Settles O44: the frame passes the checks, and the response is the two bytes or the clamped power. -/
theorem reportSetsTheMeasuredPower : Obligations.ReportSetsTheMeasuredPower := by
  intro high low s frame configured
  rw [exec_report frame configured, State.takeReport, clampedResponse_report]
  rfl

/-! ### READ NOTICE (R189, R190) -/

/-- READ NOTICE takes the oldest notice off the queue and answers with its record, before SETUP too. -/
theorem exec_readNotice {s : State} (frame : s.taking 0x13 []) :
    exec .readNotice s =
      .next { s with
        notices := s.notices.pop
        port := s.port.answering (responseFrame rspDone s.notices.oldestBytes) } := by
  unfold exec execReadNotice
  exact State.act_takeFrame _ frame rfl nofun

/-- A queue with a notice gives the notice up, and ATTN stands for what is left. -/
theorem NoticeQueue.pop_of_cons {q : NoticeQueue} {n : Notice} {rest : List Notice}
    (queue : q.queue = n :: rest) : q.pop = { q with queue := rest, attn := !rest.isEmpty } := by
  rw [NoticeQueue.pop, queue, List.tail_cons]

/-- An empty queue stays empty, without ATTN. -/
theorem NoticeQueue.pop_of_nil {q : NoticeQueue} (queue : q.queue = []) :
    q.pop = { q with attn := false } := by
  obtain ⟨_, lost, attn⟩ := q
  subst queue
  rfl

theorem NoticeQueue.oldestBytes_of_cons {q : NoticeQueue} {n : Notice} {rest : List Notice}
    (queue : q.queue = n :: rest) : q.oldestBytes = noticeBytes n := by
  rw [NoticeQueue.oldestBytes, queue]

theorem NoticeQueue.oldestBytes_of_nil {q : NoticeQueue} (queue : q.queue = []) : q.oldestBytes = [] := by
  rw [NoticeQueue.oldestBytes, queue]

/-- Settles O51: the queue is split at its oldest notice, and the codes of Table 11-7 are evaluated. -/
theorem readNoticeRemovesTheOldest : Obligations.ReadNoticeRemovesTheOldest := by
  refine ⟨fun n rest s frame queue => ?oldest, fun s frame queue => ?empty, ?kinds, ?causes⟩
  case oldest =>
    rw [exec_readNotice frame, NoticeQueue.pop_of_cons queue, NoticeQueue.oldestBytes_of_cons queue]
    rfl
  case empty =>
    rw [exec_readNotice frame, NoticeQueue.pop_of_nil queue, NoticeQueue.oldestBytes_of_nil queue]
    rfl
  case kinds => decide
  case causes => decide

end Sys2Proof.Machine
end

section
-- Proofs elaborated in order keep the number of threads within what the check's memory limit allows.
set_option Elab.async false
/-! What the commands keep: one relation in which every operation but those of seven commands stands, and from
it the statements about every step. -/

namespace Sys2Proof.Machine

/-! ### The relation -/

/-- The claims that may reach the receive register: those of another pad, after SETUP (R8, R9). -/
def State.registers (s : State) (c : Claim) : Prop :=
  s.configured = true ∧ c.pad < 36 ∧ some c.pad ≠ s.standing.pad

/-- What nearly every operation keeps of the state before it. -/
structure State.Reaction (s t : State) : Prop where
  identity : t.identity = s.identity := by rfl
  pending : t.pending = s.pending := by rfl
  cfg : t.cfg = s.cfg := by rfl
  applied : t.applyUnit.applied = s.applyUnit.applied := by rfl
  lastEchoed : t.applyUnit.lastEchoed = s.applyUnit.lastEchoed := by rfl
  pad : t.standing.pad = s.standing.pad := by rfl
  configured : t.configured = s.configured := by rfl
  conflict : s.standing.state = .conflict → t.standing.state = .conflict := by exact id
  roundCounter : t.timer.roundCounter = s.timer.roundCounter := by rfl
  tickCount : t.timer.tickCount = s.timer.tickCount := by rfl
  preDrive : t.seq.preDrive = s.seq.preDrive := by rfl
  mainDrive : t.seq.mainDrive = s.seq.mainDrive := by rfl
  turnTaken : t.seq.phase = .turnTaken → s.seq.phase = .turnTaken := by exact id
  notices : s.noticesProper → t.noticesProper := by exact id
  register : ∀ c, t.line.register = some c → s.line.register = some c ∨ s.registers c := by exact fun _ => .inl

namespace State.Reaction

variable {s t u : State}

theorem refl (s : State) : s.Reaction s where

/-- What reaches the receive register after a reaction was there before it, or may be there (R8). -/
theorem register_trans (a : s.Reaction t) {c : Claim} (filed : t.line.register = some c ∨ t.registers c) :
    s.line.register = some c ∨ s.registers c :=
  filed.elim (a.register c) fun ⟨configured, legal, other⟩ =>
    .inr ⟨a.configured ▸ configured, legal, a.pad ▸ other⟩

theorem trans (a : s.Reaction t) (b : t.Reaction u) : s.Reaction u where
  identity := b.identity.trans a.identity
  pending := b.pending.trans a.pending
  cfg := b.cfg.trans a.cfg
  applied := b.applied.trans a.applied
  lastEchoed := b.lastEchoed.trans a.lastEchoed
  pad := b.pad.trans a.pad
  configured := b.configured.trans a.configured
  conflict := b.conflict ∘ a.conflict
  roundCounter := b.roundCounter.trans a.roundCounter
  tickCount := b.tickCount.trans a.tickCount
  preDrive := b.preDrive.trans a.preDrive
  mainDrive := b.mainDrive.trans a.mainDrive
  turnTaken := a.turnTaken ∘ b.turnTaken
  notices := b.notices ∘ a.notices
  register c filed := a.register_trans (b.register c filed)

/-- A branch of the relation's operations. -/
theorem ite {p : Prop} [Decidable p] (yes : p → s.Reaction t) (no : ¬p → s.Reaction u) :
    s.Reaction (if p then t else u) := by
  split
  · exact yes ‹_›
  · exact no ‹_›

/-- A command stands in the relation where its effect does, raised or not. -/
theorem of_act {raised : Bool} {effect : State → State} (h : s.act raised effect = .next t)
    (reacts : raised = true → s.Reaction (effect s)) : s.Reaction t := by
  obtain ⟨-, raised, rfl⟩ | ⟨-, rfl⟩ := State.act_cases h
  · exact reacts raised
  · exact refl _

end State.Reaction

/-! ### Notices and the session -/

/-- A notice that joins or is dropped keeps the queue proper (R188, R189). -/
theorem NoticeQueue.push_proper {q : NoticeQueue} (n : Notice)
    (proper : q.queue.length ≤ 16 ∧ q.attn = !q.queue.isEmpty) :
    (q.push n).queue.length ≤ 16 ∧ (q.push n).attn = !(q.push n).queue.isEmpty := by
  obtain ⟨room, queue, -, attn⟩ | ⟨full, queue, -, attn⟩ := q.push_cases n
  · rw [queue, attn]
    simpa using room
  · rw [queue, attn]
    exact proper

theorem State.raise_reaction (s : State) (k : NoticeKind) (p v : Option Nat) : s.Reaction (s.raise k p v) where
  notices := NoticeQueue.push_proper _

theorem State.setSession_reaction (s : State) (n : SessionState) (c : Cause) :
    s.Reaction (s.setSession n c) where
  notices proper := by
    unfold State.noticesProper
    rw [State.setSession_notices]
    split
    · exact proper
    · exact NoticeQueue.push_proper _ proper

/-! ### The sequencer -/

/-- The sequencer asks for an opening under some condition. -/
theorem State.requestOpen_if_reaction (s : State) (p : Prop) [Decidable p] (m : OpenMode) :
    s.Reaction { s with seq := if p then s.seq.requestOpen m else s.seq } := by
  split
  · exact {}
  · exact .refl s

theorem State.requestOpen_reaction (s : State) (m : OpenMode) : s.Reaction (s.requestOpen m) where

theorem State.contactorsOpen_reaction (s : State) : s.Reaction s.contactorsOpen := s.setSession_reaction _ _

theorem State.takeEnd_reaction (s : State) : s.Reaction s.takeEnd :=
  (s.setSession_reaction _ _).trans (State.requestOpen_if_reaction _ _ .normal)

theorem State.takeDockLoss_reaction (s : State) : s.Reaction s.takeDockLoss :=
  ((s.raise_reaction _ _ _).trans (State.setSession_reaction _ _ _)).trans <|
    (State.requestOpen_if_reaction _ (dockLossTarget s.session.state = .stopping) .forced).trans {}

theorem State.signalConflict_reaction (s : State) : s.Reaction s.signalConflict :=
  (s.setSession_reaction _ _).trans {}

theorem State.contactorFault_reaction (s : State) (c : Contactor) (code : Nat) :
    s.Reaction (s.contactorFault c code) :=
  ((s.raise_reaction _ _ _).trans (State.setSession_reaction _ .fault .contactorFault)).trans
    { preDrive := by simp, mainDrive := by simp, turnTaken := by simp }

theorem State.openingConfirmed_reaction (s : State) : s.Reaction s.openingConfirmed :=
  .ite (fun _ => State.Reaction.trans { turnTaken := by simp } (State.contactorsOpen_reaction _)) fun _ => .refl s

/-- The sequencer enters a phase other than TURN_TAKEN under some condition. -/
theorem State.enterPhase_if_reaction (s : State) (p : Prop) [Decidable p] {phase : Phase}
    (other : phase ≠ .turnTaken) :
    s.Reaction { s with seq := if p then { s.seq with phase := phase } else s.seq } := by
  split
  · exact { turnTaken := (absurd · other) }
  · exact .refl s

theorem State.mainConfirmed_reaction (s : State) (awaited : Bool) : s.Reaction (s.mainConfirmed awaited) :=
  .trans (State.setSession_reaction _ _ .mainConfirmed) (State.enterPhase_if_reaction _ _ (by decide))

theorem State.changeFeedback_reaction (s : State) (c : Contactor) : s.Reaction (s.changeFeedback c) := by
  cases c <;> exact {}

theorem State.setConfirm_reaction (s : State) (c : Contactor) (v : Confirm) :
    s.Reaction { s with seq := s.seq.setConfirm c v } where
  preDrive := by simp
  mainDrive := by simp
  turnTaken := by simp

theorem State.feedbackMatches_reaction (s : State) (c : Contactor) : s.Reaction (s.feedbackMatches c) := by
  refine (s.setConfirm_reaction c .agreed).trans ?_
  cases c with
  | pre => exact State.openingConfirmed_reaction _
  | main => exact (State.mainConfirmed_reaction _ _).trans (State.openingConfirmed_reaction _)

theorem State.feedbackDeparts_reaction (s : State) (c : Contactor) : s.Reaction (s.feedbackDeparts c) :=
  .ite (fun _ => s.contactorFault_reaction _ _) fun _ => .refl s

theorem State.expireConfirm_reaction (s : State) (c : Contactor) : s.Reaction (s.expireConfirm c) :=
  .ite (fun _ => s.contactorFault_reaction _ _) fun _ => .refl s

/-! ### The line, the standing and the view -/

/-- A frame does not count a round (R24). -/
theorem Timer.takeFrame_counters (t : Timer) (own : Option Nat) (pad : Nat) (start : Int) :
    (t.takeFrame own pad start).roundCounter = t.roundCounter
      ∧ (t.takeFrame own pad start).tickCount = t.tickCount := by
  unfold Timer.takeFrame
  cases t.mode with
  | search | halted => exact ⟨rfl, rfl⟩
  | realign =>
    dsimp only
    split <;> exact ⟨rfl, rfl⟩
  | running =>
    cases own with
    | none => exact ⟨rfl, rfl⟩
    | some o =>
      dsimp only
      split <;> exact ⟨rfl, rfl⟩

theorem State.timeFrame_register (s : State) (pad : Nat) : (s.timeFrame pad).line.register = s.line.register := by
  unfold State.timeFrame
  dsimp only
  split <;> rfl

theorem State.timeFrame_reaction (s : State) (pad : Nat) : s.Reaction (s.timeFrame pad) where
  roundCounter := (s.timer.takeFrame_counters _ _ _).1
  tickCount := (s.timer.takeFrame_counters _ _ _).2
  register _ filed := .inl (s.timeFrame_register pad ▸ filed)

/-- A station that is configured enters CONFLICT, and stays configured. -/
theorem State.enterConflict_reaction {s : State} (i : Identity) (configured : s.configured = true) :
    s.Reaction (s.enterConflict i) := by
  refine .trans (t := { s with standing := s.standing.enter .conflict }) ?_
    ((State.raise_reaction _ _ _ _).trans (State.signalConflict_reaction _))
  exact { configured := configured.symm ▸ rfl, conflict := fun _ => rfl }

/-- A station that is configured and not in CONFLICT enters RESYNC, and stays both. -/
theorem State.enterResync_reaction {s : State} (configured : s.configured = true)
    (free : s.standing.state ≠ .conflict) : s.Reaction s.enterResync :=
  State.Reaction.trans { configured := configured.symm ▸ rfl, conflict := (absurd · free) }
    (State.raise_reaction _ _ _ _)

theorem Standing.of_transmitting {st : Standing} (h : st.transmitting = true) :
    st ≠ .unconfigured ∧ st ≠ .conflict := by
  cases st <;> simp_all [Standing.transmitting]

theorem State.configured_of_ne {s : State} (h : s.standing.state ≠ .unconfigured) : s.configured = true :=
  bne_iff_ne.mpr h

theorem State.takeOwnPadClaim_reaction (s : State) (i : Identity) : s.Reaction (s.takeOwnPadClaim i) :=
  .ite (fun _ => .refl s) fun _ => .ite (fun _ => {}) fun _ => .ite
    (fun sends => State.enterConflict_reaction i (State.configured_of_ne (Standing.of_transmitting sends).1))
    fun _ => .refl s

theorem State.handClaim_reaction {s : State} {c : Claim} (configured : s.configured = true) (legal : c.pad < 36) :
    s.Reaction (s.handClaim c) :=
  .ite (fun _ => s.takeOwnPadClaim_reaction _) fun other =>
    { register := fun _ filed => Option.some.inj filed ▸ .inr ⟨configured, legal, other⟩ }

/-- A valid frame names a pad of the table (R5). -/
theorem pad_lt_of_frameValid {d : List Bool} (valid : frameValid d = true) : fieldOf d 0 6 < 36 := by
  simp only [frameValid, Bool.and_eq_true, decide_eq_true_eq] at valid
  obtain ⟨⟨⟨-, pad⟩, -⟩, -⟩ := valid
  exact Nat.lt_succ_of_le pad


theorem State.evaluateFrame_reaction (s : State) (d : List Bool) : s.Reaction (s.evaluateFrame d) :=
  .ite (fun _ => {}) fun valid => .ite (fun _ => .refl s) fun configured => .ite (fun _ => {}) fun _ =>
    (s.timeFrame_reaction _).trans <| State.handClaim_reaction (s := s.timeFrame _)
      (by rwa [Bool.not_eq_true, Bool.not_eq_false'] at configured)
      (pad_lt_of_frameValid (by simpa using valid))

theorem State.receive_reaction (s : State) (cells : List LineCell) (burst : BurstEnd) :
    s.Reaction (s.receive cells burst) :=
  .ite (fun _ => .ite (fun _ => {}) fun _ => {}) fun _ => .ite (fun _ => {}) fun _ =>
    .ite (fun _ => .ite (fun _ => {}) fun _ => {}) fun _ =>
      State.Reaction.trans {} (State.evaluateFrame_reaction _ _)

/-- The standing controller may leave a standing that is neither UNCONFIGURED nor CONFLICT for another one. -/
theorem State.standing_reaction {s : State} (st : StandingCtl) {old : Standing} (new : Standing)
    (before : s.standing.state = old) (after : st.state = new) (pad : st.pad = s.standing.pad)
    (legal : old ≠ .unconfigured ∧ old ≠ .conflict ∧ new ≠ .unconfigured) :
    s.Reaction { s with standing := st } := by
  subst before after
  obtain ⟨was, free, becomes⟩ := legal
  exact { pad := pad, conflict := (absurd · free)
          configured := (State.configured_of_ne becomes).trans (State.configured_of_ne was).symm }

theorem State.takeGoodEcho_reaction (s : State) : s.Reaction s.takeGoodEcho := by
  have activated {old : Standing} (before : s.standing.state = old) (legal : old ≠ .unconfigured ∧ old ≠ .conflict) :
      s.Reaction { s with standing := s.standing.enter .active } :=
    State.standing_reaction _ .active before rfl rfl ⟨legal.1, legal.2, by decide⟩
  unfold State.takeGoodEcho
  split
  next backoff => exact activated backoff (by decide)
  next isolated =>
    exact .ite (fun _ => (activated isolated (by decide)).trans (State.raise_reaction _ _ _ _)) fun _ => {}
  · exact .refl s

theorem State.takeFailedEcho_reaction (s : State) : s.Reaction s.takeFailedEcho := by
  have backsOff {old : Standing} (new : Standing) (k : Nat) (before : s.standing.state = old)
      (legal : old ≠ .unconfigured ∧ old ≠ .conflict ∧ new ≠ .unconfigured) :
      s.Reaction { s with standing := s.backedOff new k } :=
    State.standing_reaction _ new before rfl rfl legal
  unfold State.takeFailedEcho
  split
  next active => exact backsOff _ _ active (by decide)
  next backoff =>
    exact .ite (fun _ => (backsOff _ _ backoff (by decide)).trans (State.raise_reaction _ _ _ _))
      fun _ => backsOff _ _ backoff (by decide)
  next isolated => exact backsOff _ _ isolated (by decide)
  · exact .refl s

/-! ### The round boundary -/

theorem State.endListen_reaction {s : State} (listens : s.standing.state = .listen) : s.Reaction s.endListen := by
  have configured : s.configured = true := State.configured_of_ne (by simp [listens])
  unfold State.endListen
  split
  · exact State.enterConflict_reaction _ configured
  · exact .ite (fun _ => State.enterResync_reaction configured (by simp [listens]))
      fun _ => State.standing_reaction _ .active listens rfl rfl (by decide)

theorem State.standingBoundary_reaction (s : State) : s.Reaction s.standingBoundary := by
  unfold State.standingBoundary
  dsimp only
  split
  next listens => exact State.Reaction.trans {} (State.endListen_reaction listens)
  next acquires =>
    split
    · exact (State.standing_reaction s.standing.countSkipped.enterListen .listen acquires rfl rfl
        (by decide)).trans {}
    · exact {}
  · exact {}

theorem State.sessionBoundary_reaction (s : State) : s.Reaction s.sessionBoundary :=
  .ite (fun _ => State.Reaction.trans {}
      ((State.setSession_reaction _ _ _).trans (State.requestOpen_reaction _ _))) fun _ => {}

theorem State.standingAndSession_reaction (s : State) : s.Reaction s.standingAndSession :=
  .ite (fun _ => .trans {} ((State.standingBoundary_reaction _).trans (State.sessionBoundary_reaction _)))
    fun _ => .trans {} ((State.sessionBoundary_reaction _).trans (State.standingBoundary_reaction _))

/-! ### The turn decision -/

theorem State.noteClash_reaction (s : State) (cs : List SwitchedClaim) : s.Reaction (s.noteClash cs) :=
  .ite (fun _ => s.raise_reaction _ _ _) fun _ => .refl s

theorem State.planTurns_reaction (s : State) (snap : Snapshot) : s.Reaction (s.planTurns snap) :=
  .trans {} (State.noteClash_reaction _ _)

theorem State.takeHeld_reaction (s : State) (e : HeldEvent) : s.Reaction (s.takeHeld e) := by
  cases e with
  | endCommand => exact .ite (fun _ => s.takeEnd_reaction.trans {}) fun _ => {}
  | dockLoss => exact s.takeDockLoss_reaction

theorem State.takeAllHeld_reaction (s : State) : s.Reaction s.takeAllHeld := by
  have taken (s : State) (events : List HeldEvent) : s.Reaction (events.foldl State.takeHeld s) := by
    induction events generalizing s with
    | nil => exact .refl s
    | cons e events ih => exact (s.takeHeld_reaction e).trans (ih _)
  refine .trans (.trans {} (taken { s with session := { s.session with held := [] } } s.session.held)) ?_
  unfold State.takeAllHeld State.answerDiscardedEnd
  split
  · exact {}
  · exact .refl _

/-! ### The view store and the computation -/

theorem State.noteHeldCleared_reaction (s : State) (pad : Nat) (e : Entry) :
    s.Reaction (s.noteHeldCleared pad e) :=
  .ite (fun _ => s.raise_reaction _ _ _) fun _ => .refl s

theorem State.noteIdentity_reaction (s : State) (pad : Nat) (e : Entry) (c : Claim) :
    s.Reaction (s.noteIdentity pad e c) := by
  unfold State.noteIdentity
  split
  · exact .ite (fun _ => s.raise_reaction _ _ _) fun _ => .refl s
  · exact .refl s

theorem State.noteMismatch_reaction (s : State) (pad : Nat) (e : Entry) (c : Claim) :
    s.Reaction (s.noteMismatch pad e c) := by
  unfold State.noteMismatch
  split
  · exact .ite (fun _ => .refl s) fun _ => s.raise_reaction _ _ _
  · exact .refl s

theorem State.fileClaim_reaction (s : State) (c : Claim) : s.Reaction (s.fileClaim c) :=
  ((s.noteHeldCleared_reaction _ _).trans ((State.noteIdentity_reaction _ _ _ _).trans
    (State.noteMismatch_reaction _ _ _ _))).trans { register := nofun }

theorem State.noteHeldSet_reaction (s : State) (entries : List Entry) (pads : List Nat) :
    s.Reaction (s.noteHeldSet entries pads) := by
  unfold State.noteHeldSet
  induction pads generalizing s with
  | nil => exact .refl s
  | cons pad pads ih => exact (s.raise_reaction _ _ _).trans (ih _)

theorem Release.foldl_act_reaction (r : Release) (pads : List Nat) :
    r.state.Reaction (pads.foldl Release.act r).state := by
  induction pads generalizing r with
  | nil => exact .refl _
  | cons pad pads ih =>
    refine .trans ?_ (ih _)
    obtain ⟨-, same⟩ | ⟨-, -, -, clears⟩ | ⟨-, -, -, stops⟩ := r.act_cases pad
    · rw [same]; exact .refl _
    · rw [clears]; exact (State.raise_reaction _ _ _ _).trans {}
    · rw [stops]; exact .refl _

theorem State.noteCurtail_reaction (s : State) (was : Bool) : s.Reaction (s.noteCurtail was) :=
  .ite (fun _ => s.raise_reaction _ _ _) fun _ => .ite (fun _ => s.raise_reaction _ _ _) fun _ => .refl s

/-! ### The charger port -/

theorem State.respond_reaction (s : State) (frame : List Byte) : s.Reaction (s.respond frame) where

theorem State.refuse_reaction (s : State) (code : Byte) : s.Reaction (s.refuse code) := s.respond_reaction _

theorem State.withPort_reaction (s : State) (p : Port) : s.Reaction { s with port := p } where

theorem State.withSession_reaction (s : State) (q : Session) : s.Reaction { s with session := q } where

theorem State.withDue_reaction (s : State) (d : Due) : s.Reaction { s with due := d } where

theorem State.withInputs_reaction (s : State) (p : InputPins) : s.Reaction { s with inputs := p } where

theorem State.takeFrame_reaction {s : State} {lengthOk : List Byte → Bool} {needsSetup : Bool}
    {run : List Byte → State → State} (runs : ∀ ps s, State.Reaction s (run ps s)) :
    s.Reaction (s.takeFrame lengthOk needsSetup run) := by
  obtain ⟨-, same⟩ | ⟨frame, taken, -, rfl, ⟨-, busy⟩ | ⟨-, -, length⟩ | ⟨-, -, -, -, early⟩
      | ⟨-, -, -, taken⟩⟩ := s.takeFrame_cases lengthOk needsSetup run
  · rw [same]; exact .refl s
  · rw [busy]; exact (s.withPort_reaction _).trans (State.refuse_reaction _ _)
  · rw [length]; exact (s.withPort_reaction _).trans (State.refuse_reaction _ _)
  · rw [early]; exact (s.withPort_reaction _).trans (State.refuse_reaction _ _)
  · rw [taken]; exact (s.withPort_reaction _).trans (runs _ _)

/-- A port command stands in the relation where what it runs does. -/
theorem State.Reaction.of_act_takeFrame {s t : State} {raised needsSetup : Bool} {lengthOk : List Byte → Bool}
    {run : List Byte → State → State}
    (h : (s.act raised fun s => s.takeFrame lengthOk needsSetup run) = .next t)
    (runs : ∀ ps s, State.Reaction s (run ps s)) : s.Reaction t :=
  .of_act h fun _ => State.takeFrame_reaction runs

theorem State.endNow_reaction (s : State) : s.Reaction s.endNow :=
  .ite (fun _ => s.takeEnd_reaction.trans (State.respond_reaction _ _)) fun _ => s.refuse_reaction _

theorem State.takeDock_reaction (s : State) (ps : List Byte) : s.Reaction (s.takeDock ps) :=
  ((s.withSession_reaction _).trans (State.setSession_reaction _ .intent .dockCommand)).trans
    (State.respond_reaction _ _)

theorem State.takeUpdate_reaction (s : State) (ps : List Byte) : s.Reaction (s.takeUpdate ps) :=
  (s.withSession_reaction _).trans (State.respond_reaction _ _)

theorem State.takeClear_reaction (s : State) : s.Reaction s.takeClear :=
  .trans { turnTaken := by simp [Seq.cleared] } (State.setSession_reaction _ _ _)

theorem State.waitForStore_reaction (s : State) (c : WaitingCommand) (a : Access) :
    s.Reaction (s.waitForStore c a) where

/-- A notice that is read leaves the others (R189, R190). -/
theorem State.pop_reaction (s : State) : s.Reaction { s with notices := s.notices.pop } where
  notices proper := ⟨by simpa [NoticeQueue.pop] using Nat.le_succ_of_le proper.1, rfl⟩

/-! ### The commands -/

section Commands

variable {s t : State}

theorem reaction_of_execQualifiedFeedbackChange {c : Contactor} (h : execQualifiedFeedbackChange c s = .next t) :
    s.Reaction t :=
  .of_act h fun _ => (s.changeFeedback_reaction c).trans <| .ite (fun _ => .refl _) fun _ =>
    .ite (fun _ => State.feedbackMatches_reaction _ _) fun _ => State.feedbackDeparts_reaction _ _

theorem reaction_of_execDockLoss (h : execDockLoss s = .next t) : s.Reaction t :=
  .of_act h fun _ => .ite (fun _ => {}) fun _ => .ite (fun _ => {}) fun _ =>
    .trans {} (State.takeDockLoss_reaction _)

theorem reaction_of_execClaimFiled (h : execClaimFiled s = .next t) : s.Reaction t := by
  refine .of_act h fun _ => ?_
  split
  · exact s.fileClaim_reaction _
  · exact {}

/-- The end of an own frame leaves the receive register, whether or not the frame was abandoned (R17). -/
theorem State.endOwnFrame_reaction (s : State) (good : Bool) : s.Reaction (s.endOwnFrame good) where
  register _ filed := .inl <| by
    unfold State.endOwnFrame at filed
    dsimp only at filed
    split at filed <;> exact filed

theorem reaction_of_execOwnSlotStart (h : execOwnSlotStart s = .next t) : s.Reaction t := by
  refine .of_act h fun _ => { register := fun c filed => .inl ?_ }
  dsimp only at filed
  split at filed <;> exact filed

theorem reaction_of_execOwnFrameEnd {readBack : List LineCell} (h : execOwnFrameEnd readBack s = .next t) :
    s.Reaction t :=
  .of_act h fun _ => ((s.withInputs_reaction _).trans (State.endOwnFrame_reaction _ _)).trans <|
    .ite (fun _ => .refl _) fun _ =>
      .ite (fun _ => State.takeGoodEcho_reaction _) fun _ => State.takeFailedEcho_reaction _

theorem reaction_of_execSnapshotCopy (h : execSnapshotCopy s = .next t) : s.Reaction t :=
  .of_act h fun _ => .ite (fun _ => .trans {} (State.noteCurtail_reaction _ _)) fun _ => {}

theorem reaction_of_execCompletion (h : execCompletion s = .next t) : s.Reaction t := by
  refine .of_act h fun _ => ?_
  split <;> exact {}

theorem reaction_of_execReadViewAccess (h : execReadViewAccess s = .next t) : s.Reaction t := by
  refine .of_act h fun _ => ?_
  dsimp only
  split <;> exact {}

theorem reaction_of_execReleaseHeldAccess (h : execReleaseHeldAccess s = .next t) : s.Reaction t := by
  refine .of_act h fun _ => ?_
  dsimp only
  split
  · exact (Release.foldl_act_reaction { state := s, released := 0, stoppedAt := none } _).trans {}
  · exact {}

theorem reaction_of_execOverdraw (h : execOverdraw s = .next t) : s.Reaction t :=
  .of_act h fun _ => ((s.raise_reaction _ _ _).trans (State.setSession_reaction _ .fault .overdraw)).trans
    { turnTaken := by simp }

theorem reaction_of_execReportLost (h : execReportLost s = .next t) : s.Reaction t :=
  .of_act h fun _ => ((s.raise_reaction _ _ _).trans (State.setSession_reaction _ _ _)).trans
    ((State.requestOpen_reaction _ _).trans (State.withDue_reaction _ _))

theorem reaction_of_execMisalignmentResync (h : execMisalignmentResync s = .next t) : s.Reaction t :=
  .of_act h fun _ => .ite
    (fun sends =>
      have ⟨configured, free⟩ := Standing.of_transmitting sends
      (s.withDue_reaction { s.due with resync := false }).trans
        (State.enterResync_reaction (State.configured_of_ne configured) free))
    fun _ => s.withDue_reaction _

theorem reaction_of_execSearchSilenceExpired (h : execSearchSilenceExpired s = .next t) : s.Reaction t := by
  refine .of_act h fun _ => ?_
  dsimp only
  split
  next acquires => exact (State.standing_reaction s.standing.enterListen .listen acquires rfl rfl (by decide)).trans {}
  · exact {}

/-- Both ends of REALIGN take RESYNC to LISTEN (R52), and start a round without counting one. -/
theorem State.startRound_reaction (s : State) (instant : Int) :
    s.Reaction { s with
      timer := s.timer.startRound instant, line := s.line.echoCleared, standing := s.standing.realigned } := by
  unfold StandingCtl.realigned
  split
  next resync => exact (State.standing_reaction s.standing.enterListen .listen resync rfl rfl (by decide)).trans {}
  · exact {}

end Commands

/-- The commands that do more than react: power-on reset, PORT RESET and SETUP, which write most blocks, and the
four that write the setpoint, the drives, the phase and the counters. -/
def actsAlone : Instr → Bool
  | .powerOnReset _ => true
  | .applyPoint => true
  | .turnDecision => true
  | .switchWindow => true
  | .roundBoundary => true
  | .setup _ _ => true
  | .portReset _ => true
  | _ => false

/-- Every other command stands in the relation. -/
theorem exec_reaction {c : Instr} {s t : State} (h : exec c s = .next t) (reacts : actsAlone c = false) :
    s.Reaction t := by
  cases c with unfold exec at h
  | powerOnReset | applyPoint | turnDecision | switchWindow | roundBoundary | setup | portReset => cases reacts
  | ownSlotStart => exact reaction_of_execOwnSlotStart h
  | periodStart | qualifiedCurtailChange | computePoint | spchgPulseEnd | sweepPoint
  | oneSecondTick | transactionOpen | transactionClose | frameStart | lineIdle | byteClocked
  | expectedCommitWrite | portResetViewAccess => exact .of_act h fun _ => {}
  | qualifiedFeedbackChange => exact reaction_of_execQualifiedFeedbackChange h
  | qualifiedDockAssertion => exact .of_act h fun _ => .trans {} (State.setSession_reaction _ _ _)
  | dockLoss => exact reaction_of_execDockLoss h
  | claimFrameEvaluated => exact .of_act h fun _ => (s.withInputs_reaction _).trans (State.receive_reaction _ _ _)
  | claimFiled => exact reaction_of_execClaimFiled h
  | ownFrameEnd => exact reaction_of_execOwnFrameEnd h
  | snapshotCopy => exact reaction_of_execSnapshotCopy h
  | completion => exact reaction_of_execCompletion h
  | sweep => exact .of_act h fun _ => (s.noteHeldSet_reaction _ _).trans {}
  | overdraw => exact reaction_of_execOverdraw h
  | reportLost => exact reaction_of_execReportLost h
  | confirmWindowExpired =>
    exact .of_act h fun _ => (s.expireConfirm_reaction _).trans (State.expireConfirm_reaction _ _)
  | misalignmentResync => exact reaction_of_execMisalignmentResync h
  | searchSilenceExpired => exact reaction_of_execSearchSilenceExpired h
  | realignTargetReached | realignSilenceFallback => exact .of_act h fun _ => s.startRound_reaction _
  | readViewAccess => exact reaction_of_execReadViewAccess h
  | releaseHeldAccess => exact reaction_of_execReleaseHeldAccess h
  | readStatus =>
    exact .of_act_takeFrame h fun _ s => .trans (t := { s with notices := { s.notices with lost := false } }) {}
      (State.respond_reaction _ _)
  | readNotice => exact .of_act_takeFrame h fun _ s => s.pop_reaction.trans (State.respond_reaction _ _)
  | unknownCommand => exact .of_act_takeFrame h fun _ s => .refl s
  | readGrant => exact .of_act_takeFrame h fun _ s => s.respond_reaction _
  | report => exact .of_act_takeFrame h fun _ s => (s.withSession_reaction _).trans (State.respond_reaction _ _)
  | identify => exact .of_act_takeFrame h fun _ s => (s.withInputs_reaction _).trans (State.respond_reaction _ _)
  | dock =>
    exact .of_act_takeFrame h fun _ s => .ite (fun _ => s.takeDock_reaction _) fun _ => s.refuse_reaction _
  | updateVehicle =>
    exact .of_act_takeFrame h fun _ s => .ite (fun _ => s.takeUpdate_reaction _) fun _ => s.refuse_reaction _
  | readView | releaseHeld =>
    exact .of_act_takeFrame h fun _ s =>
      .ite (fun _ => s.waitForStore_reaction _ _) fun _ => s.refuse_reaction _
  | endCharge =>
    exact .of_act_takeFrame h fun _ s => .ite
      (fun _ => (s.withSession_reaction _).trans (State.withPort_reaction _ _)) fun _ => s.endNow_reaction
  | clearFault =>
    exact .of_act_takeFrame h fun _ s => .ite
      (fun _ => s.takeClear_reaction.trans (State.respond_reaction _ _)) fun _ => s.refuse_reaction _
  | resetEnd =>
    cases h
    exact .ite (fun _ => {}) fun _ => .refl s

end Sys2Proof.Machine
end

section
-- Proofs elaborated in order keep the number of threads within what the check's memory limit allows.
set_option Elab.async false
/-! What a step can do: the relation of the reactions for most commands, and for the other seven what they do
beside it; then the statements about every step (R22, R24, R51, R125, R188). -/

namespace Sys2Proof.Machine

/-! ### The commands that do more than react -/

/-- What a switch window makes of the sequencer, as far as drives and TURN_TAKEN go (R143 to R145, R149). -/
structure State.Window (s : State) (q : Seq) : Prop where
  preOn : s.seq.preDrive = false → q.preDrive = true → s.seq.phase = .turnTaken := by
    simp_all [Seq.switch]
  turnTaken : q.phase = .turnTaken → s.seq.phase = .turnTaken := by
    simp_all [Seq.switch]
  mainOn : s.seq.mainDrive = false → q.mainDrive = true →
    s.seq.phase = .precharging ∧ s.cfg.prechargeRounds ≤ s.seq.prechargeCount ∧ s.seq.preConfirm = .agreed := by
    simp_all [Seq.switch]
  mainOff : s.seq.mainDrive = true → q.mainDrive = false → s.applyUnit.applied = 0 := by
    simp_all [Seq.switch]

/-- What a command can do: react, or do what its own rule says and then react. -/
inductive State.StepsTo (s : State) : State → Instr → Prop where
  | reacts {t : State} (c : Instr) (reaction : s.Reaction t) : s.StepsTo t c
  | powerOn (cause : ResetCondition) : s.StepsTo (s.powerOn cause) (.powerOnReset cause)
  | apply : s.StepsTo s.atApply .applyPoint
  | boundary {t : State} (reaction : s.timerBoundary.Reaction t) : s.StepsTo t .roundBoundary
  | setup {t : State} (straps : BitVec 6) (instant : Nat) (p : Port) (cfg : Setup)
      (fresh : s.configured = false) (legal : straps.toNat < 36)
      (reaction : (({ s with port := p }.readStraps straps).configure cfg straps.toNat instant).Reaction t) :
      s.StepsTo t (.setup straps instant)
  | portReset (instant : Nat) (p : Port) (configured : s.configured = true) (pre : s.seq.preDrive = false)
      (main : s.seq.mainDrive = false) :
      s.StepsTo ({ s with port := p }.takePortReset instant) (.portReset instant)
  | decision {t : State} (snap : Snapshot) (ownTurn : t.turn.ownTurn = (s.planTurns snap).turn.ownTurn)
      (reaction : (s.planTurns snap).handOwnTurn.Reaction t) : s.StepsTo t .turnDecision
  | window {t : State} (d : Due) (q : Seq) (window : s.Window q)
      (reaction : State.Reaction { s with due := d, seq := q } t) : s.StepsTo t .switchWindow

/-! SETUP -/

theorem State.settleConfirm_reaction (s : State) (c : Contactor) : s.Reaction (s.settleConfirm c) :=
  .ite (fun _ => s.contactorFault_reaction _ _) fun _ => s.setConfirm_reaction _ _

theorem State.settle_reaction (s : State) : s.Reaction s.settle := by
  have confirms (s : State) : s.Reaction s.settleConfirms :=
    (s.settleConfirm_reaction _).trans (State.settleConfirm_reaction _ _)
  have dock (s : State) : s.Reaction s.settleDock := s.setSession_reaction _ _
  exact .ite (fun _ => .trans (t := { s with free := s.free + 1 }) {} ((dock _).trans (confirms _)))
    fun _ => .trans (t := { s with free := s.free + 1 }) {} ((confirms _).trans (dock _))

theorem stepsTo_of_execSetup {s t : State} {straps : BitVec 6} {instant : Nat}
    (h : execSetup straps instant s = .next t) : s.StepsTo t (.setup straps instant) := by
  obtain ⟨-, -, rfl⟩ | ⟨-, same⟩ := State.act_cases h
  swap
  · subst same
    exact .reacts _ (.refl _)
  obtain ⟨-, same⟩ | ⟨frame, taken, -, rfl, ⟨-, busy⟩ | ⟨-, -, length⟩ | ⟨-, -, -, -, early⟩
      | ⟨-, -, -, taken⟩⟩ := s.takeFrame_cases (lengthIs 15) false _
  · rw [same]; exact .reacts _ (.refl s)
  · rw [busy]; exact .reacts _ ((s.withPort_reaction _).trans (State.refuse_reaction _ _))
  · rw [length]; exact .reacts _ ((s.withPort_reaction _).trans (State.refuse_reaction _ _))
  · rw [early]; exact .reacts _ ((s.withPort_reaction _).trans (State.refuse_reaction _ _))
  · rw [taken]
    split
    · exact .reacts _ ((s.withPort_reaction _).trans (State.refuse_reaction _ _))
    next fresh =>
    split
    · exact .reacts _ ((s.withPort_reaction _).trans (State.refuse_reaction _ _))
    split
    · exact .reacts _ ((s.withPort_reaction _).trans
        ((State.withInputs_reaction _ _).trans (State.refuse_reaction _ _)))
    next legal =>
    exact .setup straps instant _ _ (Bool.not_eq_true _ ▸ fresh) (Nat.lt_of_not_le legal)
      ((State.settle_reaction _).trans (State.respond_reaction _ _))

/-! PORT RESET -/

theorem stepsTo_of_execPortReset {s t : State} {instant : Nat} (h : execPortReset instant s = .next t) :
    s.StepsTo t (.portReset instant) := by
  obtain ⟨-, -, rfl⟩ | ⟨-, same⟩ := State.act_cases h
  swap
  · subst same
    exact .reacts _ (.refl _)
  obtain ⟨-, same⟩ | ⟨frame, taken, -, rfl, ⟨-, busy⟩ | ⟨-, -, length⟩ | ⟨-, -, -, -, early⟩
      | ⟨-, -, configured, taken⟩⟩ := s.takeFrame_cases (lengthIs 0) true _
  · rw [same]; exact .reacts _ (.refl s)
  · rw [busy]; exact .reacts _ ((s.withPort_reaction _).trans (State.refuse_reaction _ _))
  · rw [length]; exact .reacts _ ((s.withPort_reaction _).trans (State.refuse_reaction _ _))
  · rw [early]; exact .reacts _ ((s.withPort_reaction _).trans (State.refuse_reaction _ _))
  · rw [taken]
    split
    next allowed =>
      simp only [State.resetAllowed, Bool.and_eq_true, Bool.not_eq_true'] at allowed
      obtain ⟨⟨-, pre⟩, main⟩ := allowed
      exact .portReset instant _ (configured rfl) pre main
    · exact .reacts _ ((s.withPort_reaction _).trans (State.refuse_reaction _ _))

/-! The turn decision -/

theorem State.takeHeld_ownTurn (s : State) (e : HeldEvent) : (s.takeHeld e).turn.ownTurn = s.turn.ownTurn := by
  cases e with
  | endCommand =>
    simp only [State.takeHeld, State.takeHeldEnd]
    split <;> rfl
  | dockLoss => rfl

theorem State.takeAllHeld_ownTurn (s : State) : s.takeAllHeld.turn.ownTurn = s.turn.ownTurn := by
  have taken (s : State) (events : List HeldEvent) :
      (events.foldl State.takeHeld s).turn.ownTurn = s.turn.ownTurn := by
    induction events generalizing s with
    | nil => rfl
    | cons e events ih => rw [List.foldl_cons, ih, State.takeHeld_ownTurn]
  unfold State.takeAllHeld State.answerDiscardedEnd
  split <;> exact taken _ _

theorem stepsTo_of_execTurnDecision {s t : State} (h : execTurnDecision s = .next t) :
    s.StepsTo t .turnDecision := by
  obtain ⟨-, -, rfl⟩ | ⟨-, same⟩ := State.act_cases h
  swap
  · subst same
    exact .reacts _ (.refl _)
  split
  next snap _ => exact .decision snap (State.takeAllHeld_ownTurn _) (State.takeAllHeld_reaction _)
  · exact .reacts _ (.refl s)

/-! The switch window -/

theorem State.mayOpen_applied {s : State} (h : s.mayOpen = true) : s.applyUnit.applied = 0 := by
  unfold State.mayOpen at h
  split at h <;> simp_all

theorem Seq.switchOff_preDrive (q : Seq) (c : Contactor) (f : Bool) :
    (q.switchOff c f).preDrive = true → q.preDrive = true := by
  unfold Seq.switchOff
  cases c <;> split <;> simp [Seq.switch]

theorem Seq.switchOff_mainDrive (q : Seq) (c : Contactor) (f : Bool) :
    (q.switchOff c f).mainDrive = true → q.mainDrive = true := by
  unfold Seq.switchOff
  cases c <;> split <;> simp [Seq.switch]

theorem State.openContactors_window {s : State} (opens : s.mayOpen = true) :
    ∃ q, s.Window q ∧ State.Reaction { s with seq := q } s.openContactors := by
  refine ⟨_, ?_, State.openingConfirmed_reaction _⟩
  exact
    { preOn := fun off on => by
        simp [Seq.switchOff_preDrive _ _ _ (Seq.switchOff_preDrive _ _ _ on)] at off
      turnTaken := fun taken => by
        dsimp only at taken
        split at taken <;> cases taken
      mainOn := fun off on => by
        simp [Seq.switchOff_mainDrive _ _ _ (Seq.switchOff_mainDrive _ _ _ on)] at off
      mainOff := fun _ _ => State.mayOpen_applied opens }

theorem State.windowByPhase_window (s : State) :
    ∃ q, s.Window q ∧ State.Reaction { s with seq := q } s.windowByPhase := by
  have stays : ∃ q, s.Window q ∧ State.Reaction { s with seq := q } s := ⟨s.seq, {}, .refl s⟩
  unfold State.windowByPhase
  split
  next phase =>
    unfold State.closePre
    split
    · exact ⟨_, {}, State.contactorsOpen_reaction _⟩
    · exact ⟨_, { preOn := fun _ _ => phase }, .refl _⟩
  next phase =>
    split
    · unfold State.closeMain
      split
      next due =>
        simp only [State.mainDue, Bool.and_eq_true, decide_eq_true_eq, beq_iff_eq] at due
        exact ⟨_, { mainOn := fun _ _ => ⟨phase, due⟩ }, .refl _⟩
      · exact stays
    · exact stays
  next phase =>
    split
    · exact ⟨_, {}, .refl _⟩
    · exact stays
  all_goals exact stays

theorem stepsTo_of_execSwitchWindow {s t : State} (h : execSwitchWindow s = .next t) :
    s.StepsTo t .switchWindow := by
  obtain ⟨-, -, rfl⟩ | ⟨-, same⟩ := State.act_cases h
  swap
  · subst same
    exact .reacts _ (.refl _)
  dsimp only
  split
  next opens =>
    simp only [Bool.and_eq_true] at opens
    obtain ⟨q, window, reaction⟩ := State.openContactors_window
      (s := { s with due := { s.due with switchWindow := false } }) opens.2
    exact .window _ q ⟨window.1, window.2, window.3, window.4⟩ reaction
  · obtain ⟨q, window, reaction⟩ :=
      State.windowByPhase_window { s with due := { s.due with switchWindow := false } }
    exact .window _ q ⟨window.1, window.2, window.3, window.4⟩ reaction

/-! Every command -/

theorem exec_stepsTo {c : Instr} {s t : State} (h : exec c s = .next t) : s.StepsTo t c := by
  cases alone : actsAlone c with
  | false => exact .reacts c (exec_reaction h alone)
  | true =>
    cases c with
    | powerOnReset cause =>
      unfold exec at h
      cases h
      split
      · exact .powerOn cause
      · exact .reacts _ (.refl s)
    | applyPoint =>
      unfold exec at h
      obtain ⟨-, -, rfl⟩ | ⟨-, rfl⟩ := State.act_cases h
      · exact .apply
      · exact .reacts _ (.refl _)
    | roundBoundary =>
      unfold exec at h
      obtain ⟨-, -, rfl⟩ | ⟨-, rfl⟩ := State.act_cases h
      · exact .boundary (State.standingAndSession_reaction _)
      · exact .reacts _ (.refl _)
    | setup => exact stepsTo_of_execSetup h
    | portReset => exact stepsTo_of_execPortReset h
    | turnDecision => exact stepsTo_of_execTurnDecision h
    | switchWindow => exact stepsTo_of_execSwitchWindow h
    | _ => cases alone

/-! ### Identity and queue -/

/-- Every command answers a next state. -/
theorem exec_next (c : Instr) (s : State) : ∃ t, exec c s = .next t := by
  cases c <;> exact ⟨_, rfl⟩

theorem State.StepsTo.pending_identity {s t : State} {c : Instr} (h : s.StepsTo t c) :
    t.pending = s.pending ∧ t.identity = s.identity := by
  cases h with
  | reacts _ r => exact ⟨r.pending, r.identity⟩
  | powerOn | apply | portReset => exact ⟨rfl, rfl⟩
  | boundary r => exact ⟨r.pending, r.identity⟩
  | setup _ _ _ _ _ _ r => exact ⟨r.pending, r.identity⟩
  | decision snap _ r =>
    have plan := s.planTurns_reaction snap
    exact ⟨r.pending.trans plan.pending, r.identity.trans plan.identity⟩
  | window _ _ _ r => exact ⟨r.pending, r.identity⟩

/-- Settles O2: every outcome is a next state, and what a step can do touches neither. -/
theorem noCommandStopsThePart : Obligations.NoCommandStopsThePart := by
  intro c s
  obtain ⟨t, next⟩ := exec_next c s
  exact ⟨t, next, (exec_stepsTo next).pending_identity⟩

/-! ### Notices (R188, R189) -/

theorem State.StepsTo.noticesProper {s t : State} {c : Instr} (h : s.StepsTo t c) (proper : s.noticesProper) :
    t.noticesProper := by
  cases h with
  | reacts _ r => exact r.notices proper
  | powerOn | portReset => exact ⟨Nat.zero_le _, rfl⟩
  | apply => exact proper
  | boundary r => exact r.notices proper
  | setup _ _ _ _ _ _ r => exact r.notices proper
  | decision snap _ r =>
    exact r.notices ((State.setSession_reaction _ _ _).notices ((s.planTurns_reaction snap).notices proper))
  | window _ _ _ r => exact r.notices proper

/-- Settles O55: each kind of step keeps the queue proper, and a notice joins as the cases of a push say. -/
theorem everyCommandKeepsTheNoticesProper : Obligations.EveryCommandKeepsTheNoticesProper := by
  refine ⟨fun c s t proper next => (exec_stepsTo next).noticesProper proper, fun q n => ⟨?room, ?full⟩⟩
  case room => exact fun room => if_pos room
  case full => exact fun full => if_neg (Nat.not_lt.mpr full)

/-! ### The applied setpoint (R125) -/

/-- The two ceilings of R125. -/
theorem State.appliedNow_le (s : State) :
    s.appliedNow ≤ echoedCommit s.line.echo s.applyUnit.lastCommit s.applyUnit.lastEchoed
      ∧ s.appliedNow ≤ s.cfg.chargerRating :=
  ⟨(min_le_left _ _).trans (min_le_right _ _), min_le_right _ _⟩

/-- A state with the same setpoint, ceilings and configuration is as bounded. -/
theorem State.setpointBounded_of_eq {s t : State} (bounded : s.setpointBounded)
    (applied : t.applyUnit.applied = s.applyUnit.applied)
    (lastEchoed : t.applyUnit.lastEchoed = s.applyUnit.lastEchoed) (cfg : t.cfg = s.cfg)
    (configured : t.configured = s.configured) : t.setpointBounded := by
  unfold State.setpointBounded
  rw [applied, lastEchoed, cfg, configured]
  exact bounded

/-- Settles O56: the apply point takes the setpoint under both ceilings, PORT RESET and power-on reset set it to
0, and before SETUP it is 0, so that a new rating bounds it. -/
theorem everyCommandKeepsTheSetpointBounded : Obligations.EveryCommandKeepsTheSetpointBounded := by
  intro c s t bounded next
  cases exec_stepsTo next with
  | reacts _ r => exact s.setpointBounded_of_eq bounded r.applied r.lastEchoed r.cfg r.configured
  | powerOn => exact ⟨le_rfl, le_rfl, fun _ => rfl⟩
  | apply => exact ⟨s.appliedNow_le.1, s.appliedNow_le.2, bounded.2.2⟩
  | portReset => exact ⟨le_rfl, Nat.zero_le _, nofun⟩
  | boundary r => exact s.setpointBounded_of_eq bounded r.applied r.lastEchoed r.cfg r.configured
  | setup straps instant p cfg fresh _ r =>
    obtain ⟨echoed, rated, unrated⟩ := bounded
    have zero : t.applyUnit.applied = 0 :=
      r.applied.trans (Nat.le_zero.mp (rated.trans (unrated fresh).le))
    have configured : t.configured = true := r.configured
    rw [State.setpointBounded, zero, configured]
    exact ⟨Nat.zero_le _, Nat.zero_le _, nofun⟩
  | decision snap _ r =>
    have plan := s.planTurns_reaction snap
    exact s.setpointBounded_of_eq bounded (r.applied.trans plan.applied) (r.lastEchoed.trans plan.lastEchoed)
      (r.cfg.trans plan.cfg) (r.configured.trans plan.configured)
  | window _ _ _ r => exact s.setpointBounded_of_eq bounded r.applied r.lastEchoed r.cfg r.configured

/-! ### The drives (R22, R143 to R145, R149) -/

/-- A step that keeps the drives and does not enter TURN_TAKEN changes nothing that R143 to R149 restrict. -/
theorem drives_kept {c : Instr} {s t : State} (pre : t.seq.preDrive = s.seq.preDrive)
    (main : t.seq.mainDrive = s.seq.mainDrive) (phase : t.seq.phase = .turnTaken → s.seq.phase = .turnTaken) :
    (t.seq.preDrive ≠ s.seq.preDrive ∨ t.seq.mainDrive ≠ s.seq.mainDrive → c = .switchWindow)
      ∧ (s.seq.preDrive = false → t.seq.preDrive = true → s.seq.phase = .turnTaken)
      ∧ (s.seq.phase ≠ .turnTaken → t.seq.phase = .turnTaken →
        c = .turnDecision ∧ t.turn.ownTurn = true)
      ∧ (s.seq.mainDrive = false → t.seq.mainDrive = true →
        s.seq.phase = .precharging ∧ s.cfg.prechargeRounds ≤ s.seq.prechargeCount
          ∧ s.seq.preConfirm = .agreed)
      ∧ (s.seq.mainDrive = true → t.seq.mainDrive = false → s.applyUnit.applied = 0) := by
  refine ⟨fun changed => ?_, fun off on => ?_, fun other taken => absurd (phase taken) other,
    fun off on => ?_, fun on off => ?_⟩
  · exact absurd main (changed.resolve_left (not_not_intro pre))
  · rw [pre, off] at on; cases on
  · rw [main, off] at on; cases on
  · rw [main, on] at off; cases off

/-- Settles O57: only the switch window writes a drive, and only the turn decision hands a turn over. -/
theorem drivesChangeOnlyInTheSwitchWindow : Obligations.DrivesChangeOnlyInTheSwitchWindow := by
  intro c s t next notReset
  cases exec_stepsTo next with
  | reacts _ r => exact drives_kept r.preDrive r.mainDrive r.turnTaken
  | powerOn cause => exact absurd rfl (notReset cause)
  | apply => exact drives_kept rfl rfl id
  | portReset _ _ _ pre main => exact drives_kept pre.symm main.symm nofun
  | boundary r => exact drives_kept r.preDrive r.mainDrive r.turnTaken
  | setup _ _ _ _ _ _ r => exact drives_kept r.preDrive r.mainDrive r.turnTaken
  | decision snap ownTurn r =>
    have plan := s.planTurns_reaction snap
    obtain ⟨own, -, -, -, seq⟩ | ⟨-, -, seq⟩ := (s.planTurns snap).handOwnTurn_cases
    · have pre := (r.preDrive.trans (congrArg Seq.preDrive seq)).trans plan.preDrive
      have main := (r.mainDrive.trans (congrArg Seq.mainDrive seq)).trans plan.mainDrive
      obtain ⟨drives, preOn, -, mainOn, mainOff⟩ := drives_kept (c := .turnDecision) (s := s)
        (t := { t with seq := { t.seq with phase := s.seq.phase } }) pre main id
      exact ⟨drives, preOn, fun _ _ => ⟨rfl, ownTurn.trans own⟩, mainOn, mainOff⟩
    · exact drives_kept ((r.preDrive.trans (congrArg Seq.preDrive seq)).trans plan.preDrive)
        ((r.mainDrive.trans (congrArg Seq.mainDrive seq)).trans plan.mainDrive)
        fun taken => plan.turnTaken (seq ▸ r.turnTaken taken)
  | window _ q window r =>
    exact ⟨fun _ => rfl, fun off on => window.preOn off (r.preDrive.symm.trans on),
      fun other taken => absurd (window.turnTaken (r.turnTaken taken)) other,
      fun off on => window.mainOn off (r.mainDrive.symm.trans on),
      fun on off => window.mainOff on (r.mainDrive.symm.trans off)⟩

/-! ### The standing CONFLICT (R51, R54) -/

/-- Settles O59: only SETUP, which CONFLICT shuts out, and the two resets write the standing otherwise. -/
theorem conflictIsLeftOnlyByAReset : Obligations.ConflictIsLeftOnlyByAReset := by
  intro c s t next conflict leaves
  cases exec_stepsTo next with
  | reacts _ r => exact absurd (r.conflict conflict) leaves
  | powerOn cause => exact .inr ⟨⟨cause, rfl⟩, rfl⟩
  | apply => exact absurd conflict leaves
  | portReset instant => exact .inl ⟨⟨instant, rfl⟩, rfl⟩
  | boundary r => exact absurd (r.conflict conflict) leaves
  | setup _ _ _ _ fresh => simp [State.configured, conflict] at fresh
  | decision snap _ r => exact absurd (r.conflict ((s.planTurns_reaction snap).conflict conflict)) leaves
  | window _ _ _ r => exact absurd (r.conflict conflict) leaves

/-! ### The counters (R24) -/

/-- Settles O60: only the round boundary and power-on reset write the counters. -/
theorem countersChangeOnlyAtRoundBoundaries : Obligations.CountersChangeOnlyAtRoundBoundaries := by
  intro c s t next changed
  have kept {P : Prop} (round : t.timer.roundCounter = s.timer.roundCounter)
      (tick : t.timer.tickCount = s.timer.tickCount) : P :=
    (changed.elim (absurd round ·) (absurd tick ·))
  cases exec_stepsTo next with
  | reacts _ r => exact kept r.roundCounter r.tickCount
  | powerOn cause => exact .inr ⟨⟨cause, rfl⟩, rfl, rfl⟩
  | apply | portReset => exact kept rfl rfl
  | boundary r => exact .inl ⟨rfl, r.roundCounter⟩
  | setup _ _ _ _ _ _ r => exact kept r.roundCounter r.tickCount
  | decision snap _ r =>
    have plan := s.planTurns_reaction snap
    exact kept (r.roundCounter.trans plan.roundCounter) (r.tickCount.trans plan.tickCount)
  | window _ _ _ r => exact kept r.roundCounter r.tickCount

end Sys2Proof.Machine
end

section
-- Proofs elaborated in order keep the number of threads within what the check's memory limit allows.
set_option Elab.async false
/-! The peer view stays proper (Chapter 4): what each access of the view store makes of a proper table, and
which commands write what the table's invariant reads. -/

namespace Sys2Proof.Machine

/-! ### A proper entry by its state -/

theorem presentIn_iff {lo hi : Nat} {n : Option Nat} :
    presentIn lo hi n = true ↔ ∃ k, n = some k ∧ lo ≤ k ∧ k ≤ hi := by
  cases n <;> simp [presentIn]

section ProperEntry

variable {reserve pad : Nat} {e : Entry}

theorem Entry.proper_of_live (live : e.state = .live) (carries : e.carriesPad pad = true)
    (excess : e.excess.isSome = true → e.mismatch = true) (claim : e.claim.isSome = true)
    (age : presentIn 0 2 e.age = true) (reserves : e.reserve = if e.heard then none else e.claim.map Claim.load) :
    e.proper reserve pad := by
  refine ⟨carries, excess, ?_, fun _ => ⟨claim, age, reserves⟩, ?_, ?_, ?_⟩ <;> simp [live]

theorem Entry.proper_of_stale (stale : e.state = .stale) (carries : e.carriesPad pad = true)
    (excess : e.excess.isSome = true → e.mismatch = true) (claim : e.claim.isSome = true) (unheard : e.heard = false)
    (age : presentIn 3 11 e.age = true) (reserves : e.reserve = e.claim.map Claim.load) : e.proper reserve pad := by
  refine ⟨carries, excess, ?_, ?_, fun _ => ⟨claim, unheard, age, reserves⟩, ?_, ?_⟩ <;> simp [stale]

theorem Entry.proper_of_held (held : e.state = .held) (carries : e.carriesPad pad = true)
    (excess : e.excess.isSome = true → e.mismatch = true) (claim : e.claim.isSome = true) (unheard : e.heard = false)
    (age : presentIn 12 255 e.age = true) (reserves : e.reserve = e.claim.map Claim.load)
    (positive : 1 ≤ e.reserve.getD 0) : e.proper reserve pad := by
  refine ⟨carries, excess, ?_, ?_, ?_, fun _ => ⟨claim, unheard, age, reserves, positive⟩, ?_⟩ <;> simp [held]

theorem Entry.proper_of_empty (empty : e.state = .empty) (nothing : e.holdsNothing) (unreserved : e.reserve = none) :
    e.proper reserve pad := by
  refine ⟨?_, ?_, fun _ => ⟨nothing, unreserved⟩, ?_, ?_, ?_, ?_⟩ <;>
    simp [empty, Entry.carriesPad, nothing.1, nothing.2.2.2.2]

theorem Entry.proper_of_adopted (adopted : e.state = .adopted) (nothing : e.holdsNothing)
    (reserves : e.reserve = some reserve) : e.proper reserve pad := by
  refine ⟨?_, ?_, ?_, ?_, ?_, ?_, fun _ => ⟨nothing, reserves⟩⟩ <;>
    simp [adopted, Entry.carriesPad, nothing.1, nothing.2.2.2.2]

theorem Entry.blank_holdsNothing : Entry.blank.holdsNothing := ⟨rfl, rfl, rfl, rfl, rfl⟩

theorem Entry.blank_proper : Entry.blank.proper reserve pad :=
  Entry.proper_of_empty rfl Entry.blank_holdsNothing rfl

/-! ### One entry at each access -/

/-- A receipt makes a LIVE entry of age 0, heard, with the claim of its pad (R58, R60). -/
theorem Entry.receive_proper (e : Entry) {c : Claim} (carries : c.pad = pad) : (e.receive c).proper reserve pad :=
  Entry.proper_of_live rfl (by simp [Entry.receive, Entry.carriesPad, carries]) id rfl rfl rfl

/-- A step of the sweep takes a proper entry to a proper one (R61 to R65). -/
theorem Entry.swept_proper (named : Bool) (proper : e.proper reserve pad) :
    (e.swept named reserve).proper reserve pad := by
  obtain ⟨carries, -, empty, live, stale, held, adopted⟩ := proper
  cases known : e.state with
  | empty =>
    obtain ⟨nothing, unreserved⟩ := empty known
    rw [Entry.swept_of_aged_empty named reserve (by rwa [Entry.aged_of_empty known]), Entry.aged_of_empty known]
    split
    · exact Entry.proper_of_adopted rfl Entry.blank_holdsNothing rfl
    · exact Entry.proper_of_empty known ⟨nothing.1, nothing.2.1, nothing.2.2.1, nothing.2.2.2.1, rfl⟩ unreserved
  | live =>
    obtain ⟨claim, age, reserves⟩ := live known
    obtain ⟨a, age, -, young⟩ := presentIn_iff.mp age
    cases heard : e.heard with
    | true =>
      rw [Entry.swept_of_heard named reserve known heard]
      exact Entry.proper_of_live known carries nofun claim rfl rfl
    | false =>
      rw [heard] at reserves
      rw [Entry.swept_of_unheard named reserve known heard age]
      by_cases stays : a + 1 < 3
      · exact Entry.proper_of_live (if_pos stays) carries nofun claim
          (presentIn_iff.mpr ⟨_, rfl, Nat.zero_le _, Nat.le_of_lt_succ stays⟩) (by simpa [heard] using reserves)
      · exact Entry.proper_of_stale (if_neg stays) carries nofun claim heard
          (presentIn_iff.mpr ⟨_, rfl, by omega, by omega⟩) reserves
  | stale =>
    obtain ⟨claim, unheard, age, reserves⟩ := stale known
    obtain ⟨a, age, old, young⟩ := presentIn_iff.mp age
    by_cases stays : a + 1 < 12
    · rw [Entry.swept_of_young named reserve known age stays]
      exact Entry.proper_of_stale known carries nofun claim unheard
        (presentIn_iff.mpr ⟨_, rfl, by omega, by omega⟩) reserves
    · obtain ⟨c, kept⟩ := Option.isSome_iff_exists.mp claim
      rw [kept, Option.map_some] at reserves
      by_cases some_reserve : 1 ≤ c.load
      · rw [Entry.swept_of_old named reserve known age (Nat.le_of_not_lt stays) reserves some_reserve]
        exact Entry.proper_of_held rfl carries nofun claim unheard
          (presentIn_iff.mpr ⟨_, rfl, by omega, by omega⟩) (by simp [kept, reserves]) (by simpa [reserves])
      · rw [show c.load = 0 by omega] at reserves
        have expired := Entry.aged_of_expired known age (Nat.le_of_not_lt stays) reserves
        rw [Entry.swept_of_aged_empty named reserve (by rw [expired]; rfl), expired]
        split
        · exact Entry.proper_of_adopted rfl Entry.blank_holdsNothing rfl
        · exact Entry.blank_proper
  | held =>
    obtain ⟨claim, unheard, age, reserves, positive⟩ := held known
    obtain ⟨a, age, old, -⟩ := presentIn_iff.mp age
    rw [Entry.swept_of_held named reserve known, age]
    exact Entry.proper_of_held known carries nofun claim unheard
      (presentIn_iff.mpr ⟨_, rfl, by simp; omega, by simp⟩) reserves positive
  | adopted =>
    obtain ⟨nothing, reserves⟩ := adopted known
    rw [Entry.swept_of_aged_adopted named reserve (by rwa [Entry.aged_of_adopted known]), Entry.aged_of_adopted known]
    split
    · exact Entry.proper_of_adopted known ⟨nothing.1, nothing.2.1, nothing.2.2.1, nothing.2.2.2.1, rfl⟩ reserves
    · exact Entry.blank_proper

/-- Of PORT RESET's access a HELD entry keeps what makes it proper, and every other is emptied (R78). -/
theorem Entry.portReset_proper (proper : e.proper reserve pad) : e.portReset.proper reserve pad := by
  cases known : e.state with
  | held =>
    obtain ⟨carries, -, -, -, -, held, -⟩ := proper
    obtain ⟨claim, unheard, age, reserves, positive⟩ := held known
    rw [Entry.portReset_of_held known]
    exact Entry.proper_of_held known carries nofun claim unheard age reserves positive
  | empty | live | stale | adopted =>
    rw [show e.portReset = Entry.blank by simp [Entry.portReset, known]]
    exact Entry.blank_proper

end ProperEntry

/-! ### The table -/

/-- An entry stands as its state, the own pad and the configuration have it. -/
structure Entry.Sound (own : Option Nat) (configured : Bool) (reserve pad : Nat) (e : Entry) : Prop where
  proper : e.proper reserve pad
  isOwn : own = some pad → e.state = .empty
  unknown : configured = false → own = none ∧ e.state = .empty

/-- A table of 36 entries that stand so. -/
def soundTable (own : Option Nat) (configured : Bool) (reserve : Nat) (entries : List Entry) : Prop :=
  entries.length = 36 ∧ ∀ pad < 36, (entries.getD pad Entry.blank).Sound own configured reserve pad

theorem State.registerProper_iff {s : State} :
    s.registerProper = true ↔ ∀ c, s.line.register = some c → s.registers c := by
  unfold State.registerProper State.registers
  cases s.line.register with
  | none => simp
  | some c =>
    simp only [Bool.and_eq_true, decide_eq_true_eq, bne_iff_ne, and_assoc, Option.some.injEq, forall_eq']
    rfl

/-- The invariant of the view: the held set and the counts are those of the table, the table and the receive
register are sound. -/
theorem State.viewProper_iff {s : State} :
    s.viewProper ↔ s.view = s.view.withEntries s.view.entries
      ∧ soundTable s.standing.pad s.configured s.cfg.adoptionReserve s.view.entries
      ∧ ∀ c, s.line.register = some c → s.registers c := by
  constructor
  · rintro ⟨length, held, -, live, stale, heldCount, adopted, proper, own, unknown, register⟩
    refine ⟨View.ext rfl held live stale heldCount adopted rfl, ⟨length, fun pad inside => ?_⟩,
      State.registerProper_iff.mp register⟩
    exact ⟨proper pad inside, own pad inside, fun fresh => ⟨(unknown fresh).1, (unknown fresh).2 pad inside⟩⟩
  · rintro ⟨upToDate, ⟨length, sound⟩, register⟩
    have held : s.view.held = heldOf s.view.entries := congrArg View.held upToDate
    refine ⟨length, held, fun pad inside => ?_, congrArg View.liveCount upToDate,
      congrArg View.staleCount upToDate, congrArg View.heldCount upToDate, congrArg View.adoptedCount upToDate,
      fun pad inside => (sound pad inside).proper, fun pad inside => (sound pad inside).isOwn,
      fun fresh => ⟨((sound 0 (by decide)).unknown fresh).1, fun pad inside => ((sound pad inside).unknown fresh).2⟩,
      State.registerProper_iff.mpr register⟩
    rw [held, heldOf_getLsbD _ inside]
    rfl

section Tables

variable {own : Option Nat} {configured : Bool} {reserve : Nat} {entries : List Entry}

theorem Entry.blank_sound {pad : Nat} (known : configured = false → own = none) :
    Entry.blank.Sound own configured reserve pad :=
  ⟨Entry.blank_proper, fun _ => rfl, fun fresh => ⟨known fresh, rfl⟩⟩

/-- Entries that are each kept or emptied. -/
theorem soundTable.emptied {entries' : List Entry} (sound : soundTable own configured reserve entries)
    (length : entries'.length = entries.length)
    (kept : ∀ pad, entries'.getD pad Entry.blank = entries.getD pad Entry.blank
      ∨ entries'.getD pad Entry.blank = Entry.blank) :
    soundTable own configured reserve entries' := by
  refine ⟨length.trans sound.1, fun pad inside => ?_⟩
  obtain same | blank := kept pad
  · rw [same]; exact sound.2 pad inside
  · rw [blank]; exact Entry.blank_sound fun fresh => ((sound.2 pad inside).unknown fresh).1

/-- A claim of a peer is filed in its entry (R58). -/
theorem soundTable.file {c : Claim} (sound : soundTable own configured reserve entries) (after : configured = true)
    (inside : c.pad < 36) (peer : some c.pad ≠ own) :
    soundTable own configured reserve
      (entries.set c.pad ((entries.getD c.pad Entry.blank).receive c)) := by
  refine ⟨List.length_set.trans sound.1, fun pad legal => ?_⟩
  rw [getD_set_entry _ _ _ _ (sound.1 ▸ inside)]
  split
  next same =>
    exact ⟨Entry.receive_proper _ same.symm, fun isOwn => absurd (same ▸ isOwn.symm) peer,
      fun fresh => absurd (after.symm.trans fresh) nofun⟩
  · exact sound.2 pad legal

/-- Before SETUP the table names no pad as held (R63). -/
theorem soundTable.unnamed (sound : soundTable own configured reserve entries) (fresh : configured = false)
    (pad : Nat) : namedInMask (agedEntries own entries) pad = false := by
  rw [namedInMask, List.any_eq_false]
  intro e member live
  obtain ⟨p, inside, rfl⟩ := List.mem_iff_getElem.mp member
  have legal : p < entries.length := by simpa using inside
  have empty := ((sound.2 p (sound.1 ▸ legal)).unknown fresh).2
  rw [← List.getD_eq_getElem _ Entry.blank inside, getD_agedEntries _ _ legal, Entry.aged_of_empty empty,
    ite_self, empty] at live
  cases live

/-- The sweep (R61 to R65). -/
theorem soundTable.sweep (sound : soundTable own configured reserve entries) :
    soundTable own configured reserve (sweptEntries own reserve entries) := by
  refine ⟨(sweptEntries_length _ _ _).trans sound.1, fun pad inside => ?_⟩
  have before := sound.2 pad inside
  by_cases isOwn : own = some pad
  · rwa [getD_sweptEntries_own reserve entries (sound.1 ▸ inside) isOwn]
  · rw [getD_sweptEntries_peer reserve entries (sound.1 ▸ inside) isOwn]
    refine ⟨Entry.swept_proper _ before.proper, (absurd · isOwn), fun fresh => ?_⟩
    obtain ⟨none, empty⟩ := before.unknown fresh
    rw [sound.unnamed fresh, Entry.swept_of_aged_empty _ _ (by rwa [Entry.aged_of_empty empty]),
      Entry.aged_of_empty empty]
    exact ⟨none, empty⟩

/-- The expected-commit write: the expected commit is no part of what makes an entry proper. -/
theorem soundTable.expect (rows : List ResultRow) (sound : soundTable own configured reserve entries) :
    soundTable own configured reserve (withExpected own rows entries) := by
  refine ⟨List.length_mapIdx.trans sound.1, fun pad inside => ?_⟩
  rw [withExpected, getD_mapIdx_entry _ _ _ (sound.1 ▸ inside)]
  have before := sound.2 pad inside
  split
  · exact before
  · exact ⟨before.proper, before.isOwn, before.unknown⟩

/-- PORT RESET's access (R78). -/
theorem soundTable.portReset (sound : soundTable own configured reserve entries) :
    soundTable own configured reserve (entries.map Entry.portReset) := by
  refine ⟨List.length_map _ |>.trans sound.1, fun pad inside => ?_⟩
  have empties {e : Entry} (empty : e.state = .empty) : e.portReset.state = .empty := by
    simp [Entry.portReset, empty, Entry.blank]
  rw [← show Entry.blank.portReset = Entry.blank from rfl, List.getD_map]
  have before := sound.2 pad inside
  exact ⟨Entry.portReset_proper before.proper, fun isOwn => empties (before.isOwn isOwn),
    fun fresh => ⟨(before.unknown fresh).1, empties (before.unknown fresh).2⟩⟩

/-- SETUP gives a table that knows nothing its own pad and its adoption reserve. -/
theorem soundTable.configure (sound : soundTable own false reserve entries) (own' : Option Nat) (reserve' : Nat) :
    soundTable own' true reserve' entries := by
  refine ⟨sound.1, fun pad inside => ?_⟩
  have before := sound.2 pad inside
  have empty := (before.unknown rfl).2
  obtain ⟨nothing, unreserved⟩ := before.proper.2.2.1 empty
  exact ⟨Entry.proper_of_empty empty nothing unreserved, fun _ => empty, nofun⟩

end Tables

/-! ### The accesses -/

section Accesses

variable {s t : State}

/-- The table is sound for the state's own pad and configuration. -/
def State.soundEntries (s : State) (entries : List Entry) : Prop :=
  soundTable s.standing.pad s.configured s.cfg.adoptionReserve entries

/-- What an access must leave of the view: the held set and the counts those of a sound table. -/
def State.leavesSound (s : State) (v : View) : Prop := v = v.withEntries v.entries ∧ s.soundEntries v.entries

theorem State.leavesSound.withEntries {entries : List Entry} (v : View) (sound : s.soundEntries entries) :
    s.leavesSound (v.withEntries entries) := ⟨rfl, sound⟩

theorem State.leavesSound.withCursor {v : View} (before : s.leavesSound v) (cursor : Nat) :
    s.leavesSound { v with cursor := cursor } := by
  obtain ⟨upToDate, sound⟩ := before
  refine ⟨?_, sound⟩
  rw [upToDate]
  rfl

@[simp] theorem State.noteHeldCleared_view (s : State) (pad : Nat) (e : Entry) :
    (s.noteHeldCleared pad e).view = s.view := by
  unfold State.noteHeldCleared
  split <;> rfl

@[simp] theorem State.noteIdentity_view (s : State) (pad : Nat) (e : Entry) (c : Claim) :
    (s.noteIdentity pad e c).view = s.view := by
  unfold State.noteIdentity
  split
  · split <;> rfl
  · rfl

@[simp] theorem State.noteMismatch_view (s : State) (pad : Nat) (e : Entry) (c : Claim) :
    (s.noteMismatch pad e c).view = s.view := by
  unfold State.noteMismatch
  split
  · split <;> rfl
  · rfl

theorem State.fileClaim_view (s : State) (c : Claim) :
    (s.fileClaim c).view = s.view.withEntries (s.view.entries.set c.pad ((s.view.entry c.pad).receive c)) := by
  simp only [State.fileClaim, State.endAccess, State.noteMismatch_view, State.noteIdentity_view,
    State.noteHeldCleared_view]

theorem leavesSound_of_execClaimFiled (h : execClaimFiled s = .next t) (before : s.leavesSound s.view)
    (register : ∀ c, s.line.register = some c → s.registers c) : s.leavesSound t.view := by
  obtain ⟨-, -, rfl⟩ | ⟨-, rfl⟩ := State.act_cases h
  · split
    next c filed =>
      obtain ⟨after, inside, peer⟩ := register c filed
      rw [State.fileClaim_view]
      exact .withEntries _ (before.2.file after inside peer)
    · exact before
  · exact before

/-- Each entry that RELEASE HELD takes brings the held set and the counts up to date (R57, R74). -/
theorem Release.foldl_act_view (r : Release) (pads : List Nat)
    (upToDate : r.state.view = r.state.view.withEntries r.state.view.entries) :
    (pads.foldl Release.act r).state.view
        = (pads.foldl Release.act r).state.view.withEntries (pads.foldl Release.act r).state.view.entries
      ∧ (pads.foldl Release.act r).state.view.entries.length = r.state.view.entries.length := by
  induction pads generalizing r with
  | nil => exact ⟨upToDate, rfl⟩
  | cons pad pads ih =>
    rw [List.foldl_cons]
    obtain ⟨-, same⟩ | ⟨-, -, -, clears⟩ | ⟨-, -, -, stops⟩ := r.act_cases pad
    · rw [same]; exact ih r upToDate
    · rw [clears]
      obtain ⟨after, length⟩ := ih (r.clear pad (r.state.view.entry pad)) rfl
      exact ⟨after, length.trans List.length_set⟩
    · rw [stops]; exact ih _ upToDate

theorem leavesSound_of_execReleaseHeldAccess (h : execReleaseHeldAccess s = .next t)
    (before : s.leavesSound s.view) : s.leavesSound t.view := by
  have emptied pad := entry_of_execReleaseHeldAccess (pad := pad) h
  obtain ⟨-, -, rfl⟩ | ⟨-, rfl⟩ := State.act_cases h
  · dsimp only at emptied ⊢
    split at emptied
    · obtain ⟨upToDate, length⟩ := Release.foldl_act_view { state := s, released := 0, stoppedAt := none } _ before.1
      exact ⟨upToDate, before.2.emptied length emptied⟩
    · exact before
  · exact before

theorem leavesSound_of_execReadViewAccess (h : execReadViewAccess s = .next t) (before : s.leavesSound s.view) :
    s.leavesSound t.view := by
  obtain ⟨-, -, rfl⟩ | ⟨-, rfl⟩ := State.act_cases h
  · dsimp only
    split
    · exact before.withCursor _
    · exact before
  · exact before

theorem leavesSound_of_execPortResetViewAccess (h : execPortResetViewAccess s = .next t)
    (before : s.leavesSound s.view) : s.leavesSound t.view := by
  obtain ⟨-, -, rfl⟩ | ⟨-, rfl⟩ := State.act_cases h
  · exact (State.leavesSound.withEntries s.view before.2.portReset).withCursor 0
  · exact before

theorem leavesSound_of_execSweep (h : execSweep s = .next t) (before : s.leavesSound s.view) :
    s.leavesSound t.view := by
  obtain ⟨-, -, rfl⟩ | ⟨-, rfl⟩ := State.act_cases h
  · exact .withEntries _ before.2.sweep
  · exact before

theorem leavesSound_of_execExpectedCommitWrite (h : execExpectedCommitWrite s = .next t)
    (before : s.leavesSound s.view) : s.leavesSound t.view := by
  obtain ⟨-, -, rfl⟩ | ⟨-, rfl⟩ := State.act_cases h
  · exact .withEntries _ (before.2.expect _)
  · exact before

end Accesses

/-- Whatever a command but power-on reset does to the view, it leaves it sound. -/
theorem exec_leavesSound {c : Instr} {s t : State} (h : exec c s = .next t) (noReset : ∀ cause, c ≠ .powerOnReset cause)
    (before : s.leavesSound s.view) (register : ∀ c, s.line.register = some c → s.registers c) :
    s.leavesSound t.view := by
  cases writes : writesView c with
  | false => rwa [exec_view h writes]
  | true =>
    cases c with
    | powerOnReset cause => exact absurd rfl (noReset cause)
    | claimFiled => exact leavesSound_of_execClaimFiled h before register
    | expectedCommitWrite => exact leavesSound_of_execExpectedCommitWrite h before
    | sweep => exact leavesSound_of_execSweep h before
    | readViewAccess => exact leavesSound_of_execReadViewAccess h before
    | releaseHeldAccess => exact leavesSound_of_execReleaseHeldAccess h before
    | portResetViewAccess => exact leavesSound_of_execPortResetViewAccess h before
    | _ => cases writes

/-! ### Every command -/

/-- A step that keeps pad, configuration and adoption reserve keeps what is sound by them. -/
theorem State.viewProper_of_kept {s t : State} (sound : s.leavesSound t.view)
    (register : ∀ c, s.line.register = some c → s.registers c) (cfg : t.cfg = s.cfg)
    (pad : t.standing.pad = s.standing.pad) (configured : t.configured = s.configured)
    (filed : ∀ c, t.line.register = some c → s.line.register = some c ∨ s.registers c) : t.viewProper := by
  refine State.viewProper_iff.mpr ⟨sound.1, ?_, fun c file => ?_⟩
  · rw [pad, configured, cfg]
    exact sound.2
  · have legal := (filed c file).elim (register c) id
    unfold State.registers at legal ⊢
    rwa [configured, pad]

/-- PORT RESET leaves the receive register (R17). -/
theorem Line.portReset_register (l : Line) : l.portReset.register = l.register := by
  unfold Line.portReset
  split <;> rfl

theorem View.powerOn_upToDate : View.powerOn = View.powerOn.withEntries View.powerOn.entries := by decide

/-- A table at its power-on values is proper for a station that has no pad yet (R76). -/
theorem State.viewProper_of_powerOn {s : State} (view : s.view = View.powerOn) (pad : s.standing.pad = none)
    (register : s.line.register = none) : s.viewProper := by
  refine State.viewProper_iff.mpr ⟨view ▸ View.powerOn_upToDate, ⟨view ▸ rfl, fun pad' inside => ?_⟩, ?_⟩
  · rw [view, show View.powerOn.entries.getD pad' Entry.blank = Entry.blank by simp [View.powerOn]]
    exact Entry.blank_sound fun _ => pad
  · rw [register]
    nofun

theorem State.powerOn_viewProper (s : State) (cause : ResetCondition) : (s.powerOn cause).viewProper :=
  State.viewProper_of_powerOn rfl rfl rfl

/-- Settles O53: the table, the queue and the setpoint at their power-on values. -/
theorem invariantsHoldAtReset : Obligations.InvariantsHoldAtReset :=
  ⟨State.viewProper_of_powerOn rfl rfl rfl, ⟨Nat.zero_le _, rfl⟩, le_rfl, le_rfl, fun _ => rfl⟩

/-- Settles O54: the accesses leave a sound table, only valid claims of other pads after SETUP reach the receive
register, and SETUP itself finds a table that knows nothing. -/
theorem everyCommandKeepsTheViewProper : Obligations.EveryCommandKeepsTheViewProper := by
  intro c s t proper next
  obtain ⟨upToDate, table, register⟩ := State.viewProper_iff.mp proper
  have sound (noReset : ∀ cause, c ≠ .powerOnReset cause) := exec_leavesSound next noReset ⟨upToDate, table⟩ register
  cases exec_stepsTo next with
  | reacts _ r =>
    by_cases noReset : ∀ cause, c ≠ .powerOnReset cause
    · exact State.viewProper_of_kept (sound noReset) register r.cfg r.pad r.configured r.register
    · simp only [not_forall, not_not] at noReset
      obtain ⟨cause, rfl⟩ := noReset
      cases next
      split
      · exact s.powerOn_viewProper cause
      · exact proper
  | powerOn cause => exact s.powerOn_viewProper cause
  | apply => exact proper
  | boundary r => exact State.viewProper_of_kept (sound nofun) register r.cfg r.pad r.configured r.register
  | setup straps instant p cfg fresh legal r =>
    obtain ⟨upToDate, table⟩ := sound nofun
    refine State.viewProper_iff.mpr ⟨upToDate, ?_, fun c file => ?_⟩
    · rw [show t.configured = true from r.configured]
      unfold State.soundEntries at table
      rw [fresh] at table
      exact table.configure _ _
    · obtain before | after := r.register c file
      · exact absurd ((register c before).1.symm.trans fresh) nofun
      · unfold State.registers at after ⊢
        rwa [r.configured, r.pad]
  | portReset instant p configured =>
    refine State.viewProper_of_kept (sound nofun) register rfl rfl configured.symm fun c file => .inl ?_
    rwa [← Line.portReset_register]
  | decision snap _ r =>
    have plan := s.planTurns_reaction snap
    exact State.viewProper_of_kept (sound nofun) register (r.cfg.trans plan.cfg) (r.pad.trans plan.pad)
      (r.configured.trans plan.configured) fun c file => plan.register_trans (r.register c file)
  | window _ _ _ r => exact State.viewProper_of_kept (sound nofun) register r.cfg r.pad r.configured r.register

end Sys2Proof.Machine
end

section
-- Proofs elaborated in order keep the number of threads within what the check's memory limit allows.
set_option Elab.async false
/-! The machine, the resets and the round timer's own commands (R18 to R22, R32 to R35, R83, R193). -/

namespace Sys2Proof.Machine

/-! ### The step and power-on reset -/

/-- Settles O1: the two branches of the step. -/
theorem stepRunsTheFrontCommand : Obligations.StepRunsTheFrontCommand := by
  refine ⟨fun c rest s queue => ?_, fun s queue => ?_⟩ <;> rw [step, queue]

theorem resets_rstLow (units : Nat) : resets (.rstLow units) = decide (16 ≤ units) := rfl

/-- Settles O3: a long low pulse or a low VDD loads the power-on values, and a short pulse does nothing. -/
theorem powerOnResetSetsEveryBlock : Obligations.PowerOnResetSetsEveryBlock := by
  constructor
  · intro cause s long
    have taken : resets cause = true := by
      obtain rfl | ⟨units, rfl, length⟩ := long
      · rfl
      · simpa [resets_rstLow] using length
    refine ⟨s.powerOn cause, ?_, rfl, ?_⟩
    · simp [exec, execPowerOnReset, taken]
    · cases cause <;> rfl
  · intro units s short
    simp [exec, execPowerOnReset, resets_rstLow, Nat.not_le.mpr short]

/-- While a reset is held no command that waits for its end has an effect. -/
theorem State.act_held {s : State} (raised : Bool) (effect : State → State) (held : s.resetHeld = true) :
    s.act raised effect = .next s := by
  simp [State.act, held]

/-- Settles O4: the end of the reset opens a transaction where CP_SEL is asserted; until then only a reset acts. -/
theorem resetEndsWhenBothConditionsClear : Obligations.ResetEndsWhenBothConditionsClear := by
  refine ⟨fun sel s held => ⟨s.endReset sel, ?_, rfl, ?_⟩, fun rstN vddOk sel s low => ?_, ?_⟩
  · simp [exec, execResetEnd, held]
  · cases sel with
    | false => exact ⟨fun _ => rfl, nofun, rfl⟩
    | true => exact ⟨nofun, fun _ => ⟨rfl, rfl, rfl, rfl, rfl, rfl⟩, rfl⟩
  · obtain rfl | rfl := low <;> simp [exec, execResetEnd]
  · intro c s held noReset noEnd
    cases c with unfold exec
    | powerOnReset cause => exact absurd rfl (noReset cause)
    | resetEnd rstN vddOk sel => exact absurd rfl (noEnd rstN vddOk sel)
    | _ => exact State.act_held _ _ held

/-! ### Period starts -/

theorem QInput.sample_sampledTo (q : QInput) (level : Bool) : q.sampledTo level (q.sample level) := by
  obtain ⟨same, sampled⟩ | ⟨differs, sampled⟩ := q.sample_cases level
  · rw [sampled]; exact ⟨rfl, fun _ => rfl, fun differs => absurd same differs⟩
  · rw [sampled]; exact ⟨rfl, fun same => absurd same differs, fun _ => rfl⟩

/-- The silence count after a slot period, by the mode (R32, R35). -/
theorem Timer.silenceAfterPeriod_eq (t : Timer) :
    t.silenceAfterPeriod =
      if t.mode = .search then ((t.nextPeriod - t.searchStart) / 2000).toNat
      else if t.mode = .realign ∧ t.target = none ∧ t.slot.isSome = true then min 80 (t.silence + 1)
      else t.silence := by
  unfold Timer.silenceAfterPeriod
  cases t.mode <;> simp [Timer.searchSilence, Config.slotUnits, Config.silencePeriods]

/-- A period start comes before the end of SEARCH by silence (R32). -/
theorem State.search_of_canPeriodStart {s : State} (starts : s.canPeriodStart = true)
    (search : s.timer.mode = .search) : s.timer.nextPeriod < s.timer.searchStart + 160000 := by
  simp only [State.canPeriodStart, Bool.and_eq_true, Bool.not_eq_true'] at starts
  obtain ⟨⟨-, notExpired⟩, -⟩ := starts
  simp only [Timer.searchExpired, search, beq_self_eq_true, Bool.true_and] at notExpired
  exact Int.lt_of_not_ge (of_decide_eq_false notExpired)

/-- Settles O5: the sampling and the silence count by their cases; the points are those of the new slot. -/
theorem periodStartAdvancesSlotAndSamples : Obligations.PeriodStartAdvancesSlotAndSamples := by
  intro curt preFb mainFb dockSns s held starts
  rw [exec, execPeriodStart, State.act_taken _ held starts]
  refine ⟨s.periodStarts curt preFb mainFb dockSns, rfl, ?idle, ?first, ?next, rfl, rfl,
    s.timer.silenceAfterPeriod_eq, ?silence, QInput.sample_sampledTo _ _, QInput.sample_sampledTo _ _,
    QInput.sample_sampledTo _ _, ?curtail, ?fresh, ?own, beq_iff_eq, beq_iff_eq, beq_iff_eq, beq_iff_eq, rfl, rfl⟩
  case idle => exact fun idle => by simp [State.periodStarts, Timer.periodStarted, Timer.slotAfterPeriodStart, idle]
  case first =>
    exact fun runs none => by simp [State.periodStarts, Timer.periodStarted, Timer.slotAfterPeriodStart, runs, none]
  case next =>
    exact fun k runs slot => by simp [State.periodStarts, Timer.periodStarted, Timer.slotAfterPeriodStart, runs, slot]
  case silence =>
    intro search
    have early := s.timer.searchSilence_lt_iff.mpr (s.search_of_canPeriodStart starts search)
    simpa [State.periodStarts, Timer.periodStarted, Timer.silenceAfterPeriod, search] using early
  case curtail =>
    intro configured
    rw [show (s.periodStarts curt preFb mainFb dockSns).qual.curtail = s.qual.curtail.sample (!curt) from
      if_pos configured]
    exact QInput.sample_sampledTo _ _
  case fresh => exact fun fresh => if_neg (by simp [fresh])
  case own =>
    simp only [State.periodStarts, State.pointsAt, Timer.periodStarted, Bool.and_eq_true, beq_iff_eq,
      Option.isSome_iff_exists]
    constructor
    · rintro ⟨⟨k, slot⟩, own⟩
      exact ⟨k, slot, own ▸ slot⟩
    · rintro ⟨k, slot, own⟩
      exact ⟨⟨k, slot⟩, slot.trans own.symm⟩

/-- Settles O6: the level changes, and the memory takes what it changes to. -/
theorem qualifiedCurtailChangeSetsTheMemory : Obligations.QualifiedCurtailChangeSetsTheMemory := by
  intro s held configured runs enough
  have due : s.curtailChangeDue = true := by simp [State.curtailChangeDue, configured, runs, enough]
  rw [exec, execQualifiedCurtailChange, State.act_taken _ held due]
  refine ⟨_, rfl, rfl, fun deasserted => ?_, fun asserted => ?_, rfl⟩
  · simp [deasserted]
  · simp [asserted]

/-! ### The starts of rounds -/

/-- Settles O39: each of the three starts is due at its instant, and starts the round there. -/
theorem roundsStartBySilenceTargetAndFallback : Obligations.RoundsStartBySilenceTargetAndFallback := by
  refine ⟨fun s held search expired => ?search, fun target s held realign gap fixed reached => ?target,
    fun s held realign noGap between noTarget silent => ?fallback⟩
  case search =>
    have due : s.timer.searchExpired = true := by
      simp only [Timer.searchExpired, search, beq_self_eq_true, Bool.true_and]
      exact decide_eq_true expired
    rw [exec, execSearchSilenceExpired, State.act_taken _ held due]
    rfl
  case target =>
    have due : s.timer.targetReached = true := by simp [Timer.targetReached, realign, gap, fixed, reached]
    rw [exec, execRealignTargetReached, State.act_taken _ held due, fixed]
    rfl
  case fallback =>
    have due : s.timer.fallbackDue = true := by
      simp [Timer.fallbackDue, realign, noGap, between, noTarget, Config.silencePeriods, silent]
    rw [exec, execRealignSilenceFallback, State.act_taken _ held due]
    rfl

end Sys2Proof.Machine
end

section
-- Proofs elaborated in order keep the number of threads within what the check's memory limit allows.
set_option Elab.async false
/-! The transactions of the charger port and the checks of its frames (R174 to R177). -/

namespace Sys2Proof.Machine

/-! ### Transactions -/

/-- Settles O40: opening and closing write the port as R175 and R176 say, and CP_DOUT follows. -/
theorem transactionsOpenAndClose : Obligations.TransactionsOpenAndClose := by
  refine ⟨fun s held closed idle => ?opens, fun s held opened => ?closes⟩
  case opens =>
    rw [exec, execTransactionOpen, State.act_taken _ held (by simp [closed, idle])]
    exact ⟨_, rfl, rfl, rfl, rfl⟩
  case closes =>
    rw [exec, execTransactionClose, State.act_taken _ held (by simpa using opened)]
    exact ⟨_, rfl, rfl, rfl, fun idle => by simp [Port.closed, idle], fun w waits => by simp [Port.closed, waits], rfl⟩

/-! ### Bytes (Table 10-1) -/

section Bytes

variable {p : Port} (b : Byte)

theorem Port.advance_kept (p : Port) :
    (p.advance b).waiting = p.waiting ∧ (p.advance b).response = p.response
      ∧ (p.advance b).resetCause = p.resetCause := by
  unfold Port.advance
  split
  case h_3 => split <;> exact ⟨rfl, rfl, rfl⟩
  all_goals exact ⟨rfl, rfl, rfl⟩

/-- A byte writes no more of the port than the transaction, the frame, the read position and CP_DOUT. -/
theorem Port.clock_frame (p : Port) :
    p.clock b =
      { p with
        txn := (p.clock b).txn, assembly := (p.clock b).assembly, ready := (p.clock b).ready,
        readPos := (p.clock b).readPos, dout := (p.clock b).dout } := by
  obtain ⟨waiting, response, resetCause⟩ := p.advance_kept b
  exact Port.ext rfl rfl rfl waiting response rfl resetCause rfl

/-- The frame is complete at its last parameter byte (R175). -/
theorem frameComplete_iff (frame : List Byte) :
    frameComplete frame = true ↔ ∃ code len ps, frame = code :: len :: ps ∧ ps.length = len.toNat := by
  match frame with
  | [] => simp [frameComplete]
  | [code] => simp [frameComplete]
  | code :: len :: ps => simp [frameComplete]

/-- While a transaction is open the port has a byte to send. -/
theorem Port.nextByte_isSome (opened : p.txn ≠ .closed) : ∃ next, p.nextByte = some next := by
  unfold Port.nextByte
  split
  next closed => exact absurd closed opened
  · exact ⟨_, rfl⟩
  · split <;> exact ⟨_, rfl⟩
  · exact ⟨_, rfl⟩
  · exact ⟨_, rfl⟩

theorem Port.doutLevel_of_spent (spent : p.txn = .spent) : p.doutLevel = some true := by
  simp [Port.doutLevel, Port.nextByte, spent]

theorem Port.doutLevel_of_command (command : p.txn = .command) : p.doutLevel = some false := by
  simp [Port.doutLevel, Port.nextByte, command]

theorem Port.doutLevel_of_execute_none (execute : p.txn = .execute) (busy : p.response = none) :
    p.doutLevel = some false := by
  simp [Port.doutLevel, Port.nextByte, execute, busy]

theorem Port.doutLevel_of_execute_some {code : Byte} {rest : List Byte} (execute : p.txn = .execute)
    (ready : p.response = some (code :: rest)) : p.doutLevel = some (code.getLsbD 7) := by
  simp [Port.doutLevel, Port.nextByte, execute, ready]

theorem Port.doutLevel_of_response {r : List Byte} {next : Byte} (responds : p.txn = .response)
    (response : p.response = some r) (at_pos : r[p.readPos]? = some next) :
    p.doutLevel = some (next.getLsbD 7) := by
  simp [Port.doutLevel, Port.nextByte, responds, response, at_pos]

/-- The bits sent with a byte begin with the level that stood before it (R174). -/
theorem Port.head_doutBits (opened : p.txn ≠ .closed) : p.doutLevel = (p.clock b).doutBits.head? := by
  obtain ⟨next, sends⟩ := Port.nextByte_isSome opened
  simp [Port.doutLevel, Port.doutBits, Port.clock, sends, List.range_succ]

theorem Port.doutBits_length {out : Byte} (sent : p.dout = some out) : p.doutBits.length = 8 := by
  simp [Port.doutBits, sent]

theorem Port.clock_of_command (command : p.txn = .command) :
    p.clock b = { p.collect b with dout := some 0 } := by
  simp [Port.clock, Port.advance, Port.nextByte, command]

theorem Port.clock_of_busy (execute : p.txn = .execute) (busy : p.response = none) :
    p.clock b = { p with dout := some 0 } := by
  simp [Port.clock, Port.advance, Port.nextByte, execute, busy]

theorem Port.clock_of_ready {first : Byte} {rest : List Byte} (execute : p.txn = .execute)
    (ready : p.response = some (first :: rest)) :
    p.clock b = { p.send (first :: rest) 0 with dout := some first } := by
  simp [Port.clock, Port.advance, Port.nextByte, execute, ready]

theorem Port.clock_of_response {r : List Byte} (responds : p.txn = .response) (response : p.response = some r)
    (inside : p.readPos < r.length) :
    p.clock b =
      { p with
        txn := if p.readPos + 1 = r.length then .spent else .response
        readPos := p.readPos + 1
        dout := r[p.readPos]? } := by
  have last : p.readPos + 1 < r.length ↔ ¬p.readPos + 1 = r.length := by omega
  simp [Port.clock, Port.advance, Port.nextByte, Port.send, responds, response, last, inside]

theorem Port.clock_of_spent (spent : p.txn = .spent) : p.clock b = { p with dout := some 0xFF } := by
  simp [Port.clock, Port.advance, Port.nextByte, spent]

end Bytes

/-- Settles O41: one equation for each state of Table 10-1, and the level that each leaves on CP_DOUT. -/
theorem byteClockedFollowsTheTransactionState : Obligations.ByteClockedFollowsTheTransactionState := by
  intro b s held opened
  rw [exec, execByteClocked, State.act_taken _ held (by simpa using opened)]
  refine ⟨_, rfl, fun sent out => ⟨?length, fun i inside => Port.doutBits_getElem? _ out inside⟩,
    Port.head_doutBits b opened, ?some, ?spent, ?zero,
    fun r next responds response => Port.doutLevel_of_response responds response,
    fun code rest p => Port.doutLevel_of_execute_some,
    fun command => ⟨?null, fun complete => ?complete, fun more => ?more⟩,
    Port.clock_of_busy b, fun first second rest execute ready => ?first, fun r => Port.clock_of_response b,
    Port.clock_of_spent b, ?frame⟩
  case length => exact Port.doutBits_length out
  case some =>
    obtain ⟨next, sends⟩ := Port.nextByte_isSome opened
    exact Option.isSome_iff_exists.mpr ⟨next, sends⟩
  case spent =>
    rintro (before | after)
    · exact Port.doutLevel_of_spent (by rw [Port.clock_of_spent b before]; exact before)
    · exact Port.doutLevel_of_spent after
  case zero =>
    rintro (command | ⟨execute, busy⟩)
    · exact Port.doutLevel_of_command command
    · exact Port.doutLevel_of_execute_none execute busy
  case null => simp [Port.clock_of_command b command]
  case complete =>
    simp [Port.clock_of_command b command, Port.collect, (frameComplete_iff _).mpr complete]
  case more =>
    have incomplete : ¬frameComplete (s.port.assembly ++ [b]) = true := by
      rw [frameComplete_iff]
      rintro ⟨code, len, ps, frame, length⟩
      exact more code len ps frame length
    simp [Port.clock_of_command b command, Port.collect, incomplete]
  case first =>
    rw [Port.clock_of_ready b execute ready]
    simp [Port.send]
  case frame =>
    exact congrArg (fun p =>
        ({ s with inputs := { s.inputs with cpDin := b.getLsbD 0, cpClk := false }, port := p } : State))
      (s.port.clock_frame b)

/-! ### The checks of a frame (R177) -/

section Checks

/-- The command is a frame of this code, checked for its length and for SETUP before it runs. -/
def TakesFrame (c : Instr) (code : Byte) (lengthOk : List Byte → Bool) (needsSetup : Bool) : Prop :=
  ∃ run, ∀ s, exec c s = s.act (s.frameReady code) fun s => s.takeFrame lengthOk needsSetup run

variable {s : State} {code : Byte} {ps : List Byte} {lengthOk : List Byte → Bool} {needsSetup : Bool}

theorem State.takeFrame_busy {frame : List Byte} {w : PortWait} (run : List Byte → State → State)
    (ready : s.port.ready = some frame) (waits : s.port.waiting = some w) :
    s.takeFrame lengthOk needsSetup run = { s with port := s.port.answering [0xC1, 0] } := by
  simp only [State.takeFrame, ready]
  rw [if_pos (by simp [waits])]
  rfl

theorem State.takeFrame_length (run : List Byte → State → State) (frame : s.taking code ps)
    (bad : lengthOk ps = false) :
    s.takeFrame lengthOk needsSetup run = { s with port := s.port.answering [0xC3, 0] } := by
  obtain ⟨-, idle, ready⟩ := frame
  simp only [State.takeFrame, ready, List.drop_succ_cons, List.drop_zero]
  rw [if_neg (by simp [idle]), if_pos (by simp [bad])]
  rfl

theorem State.takeFrame_early (run : List Byte → State → State) (frame : s.taking code ps)
    (length : lengthOk ps = true) (fresh : s.configured = false) :
    s.takeFrame lengthOk true run = { s with port := s.port.answering [0xC1, 0] } := by
  obtain ⟨-, idle, ready⟩ := frame
  simp only [State.takeFrame, ready, List.drop_succ_cons, List.drop_zero]
  rw [if_neg (by simp [idle]), if_neg (by simp [length]), if_pos (by simp [fresh])]
  rfl

theorem TakesFrame.busy {c : Instr} (takes : TakesFrame c code lengthOk needsSetup) {rest : List Byte} {w : PortWait}
    (held : s.resetHeld = false) (ready : s.port.ready = some (code :: rest)) (waits : s.port.waiting = some w) :
    exec c s = .next { s with port := s.port.answering [0xC1, 0] } := by
  obtain ⟨run, arm⟩ := takes
  rw [arm, State.act_taken _ held (by simp [State.frameReady, ready]), State.takeFrame_busy run ready waits]

theorem TakesFrame.length {c : Instr} (takes : TakesFrame c code lengthOk needsSetup) (frame : s.taking code ps)
    (bad : lengthOk ps = false) : exec c s = .next { s with port := s.port.answering [0xC3, 0] } := by
  obtain ⟨run, arm⟩ := takes
  rw [arm, State.act_taken _ frame.1 (State.frameReady_of_taking frame), State.takeFrame_length run frame bad]

theorem TakesFrame.early {c : Instr} (takes : TakesFrame c code lengthOk true) (frame : s.taking code ps)
    (length : lengthOk ps = true) (fresh : s.configured = false) :
    exec c s = .next { s with port := s.port.answering [0xC1, 0] } := by
  obtain ⟨run, arm⟩ := takes
  rw [arm, State.act_taken _ frame.1 (State.frameReady_of_taking frame), State.takeFrame_early run frame length fresh]

/-- Every command of the port takes the frames of its code (Table 11-3). -/
theorem exec_takes (straps : BitVec 6) (instant : Nat) :
    ∀ x ∈ [(Instr.setup straps instant, (0x01 : Byte)), (.report, 0x02), (.dock, 0x03), (.updateVehicle, 0x04),
        (.endCharge, 0x05), (.clearFault, 0x06), (.readStatus, 0x10), (.readGrant, 0x11), (.readView, 0x12),
        (.readNotice, 0x13), (.releaseHeld, 0x14), (.identify straps, 0x15), (.portReset instant, 0x1F)],
      ∃ lengthOk needsSetup, TakesFrame x.1 x.2 lengthOk needsSetup := by
  simp only [List.forall_mem_cons, List.not_mem_nil, false_imp_iff, implies_true, and_true]
  refine ⟨?_, ?_, ?_, ?_, ?_, ?_, ?_, ?_, ?_, ?_, ?_, ?_, ?_⟩ <;> exact ⟨_, _, _, fun _ => rfl⟩

/-- Every command of the port but SETUP is checked for the length of Table 11-3. -/
theorem exec_takes_length (straps : BitVec 6) (instant : Nat) (ps : List Byte) :
    ∀ x ∈ [(Instr.report, (0x02 : Byte), 2), (.dock, 0x03, 14), (.updateVehicle, 0x04, 10), (.endCharge, 0x05, 0),
        (.clearFault, 0x06, 0), (.readStatus, 0x10, 0), (.readGrant, 0x11, 0), (.readView, 0x12, 3),
        (.readNotice, 0x13, 0), (.releaseHeld, 0x14, 1 + 2 * param1 ps 0), (.identify straps, 0x15, 0),
        (.portReset instant, 0x1F, 0)],
      ∃ lengthOk needsSetup, TakesFrame x.1 x.2.1 lengthOk needsSetup ∧ lengthOk ps = decide (ps.length = x.2.2) := by
  simp only [List.forall_mem_cons, List.not_mem_nil, false_imp_iff, implies_true, and_true]
  refine ⟨?_, ?_, ?_, ?_, ?_, ?_, ?_, ?_, ?_, ?_, ?_, ?_⟩ <;> exact ⟨_, _, ⟨_, fun _ => rfl⟩, rfl⟩

/-- The commands that need SETUP. -/
theorem exec_takes_configured (instant : Nat) (ps : List Byte) :
    ∀ x ∈ [(Instr.report, (0x02 : Byte), 2), (.dock, 0x03, 14), (.updateVehicle, 0x04, 10), (.endCharge, 0x05, 0),
        (.clearFault, 0x06, 0), (.readGrant, 0x11, 0), (.readView, 0x12, 3),
        (.releaseHeld, 0x14, 1 + 2 * param1 ps 0), (.portReset instant, 0x1F, 0)],
      ∃ lengthOk, TakesFrame x.1 x.2.1 lengthOk true ∧ lengthOk ps = decide (ps.length = x.2.2) := by
  simp only [List.forall_mem_cons, List.not_mem_nil, false_imp_iff, implies_true, and_true]
  refine ⟨?_, ?_, ?_, ?_, ?_, ?_, ?_, ?_, ?_⟩ <;> exact ⟨_, ⟨_, fun _ => rfl⟩, rfl⟩

end Checks

/-! ### SETUP's own checks (R38, R178) -/

section SetupChecks

variable {s : State} {straps : BitVec 6} {instant : Nat} {ps : List Byte}

/-- SETUP of the right length, by the order of its own checks. -/
theorem exec_setup (frame : s.taking 0x01 ps) (length : ps.length = 15) :
    exec (.setup straps instant) s =
      .next (if s.configured then { s with port := s.port.answering [0xC2, 0] }
      else if 5 < param1 ps 0 then { s with port := s.port.answering [0xC3, 0] }
      else if 36 ≤ straps.toNat then
        { s with inputs := { s.inputs with straps := straps }, port := s.port.answering [0xC1, 0] }
      else ({ s with port := s.port.taken }.readStraps straps).takeSetup ps straps.toNat instant) := by
  unfold exec execSetup
  exact State.act_takeFrame _ frame (by simpa [lengthIs] using length) nofun

end SetupChecks

/-- Settles O42: the checks come in R177's order, whatever command the frame is of. -/
theorem framesAreCheckedBeforeTheyAreTaken : Obligations.FramesAreCheckedBeforeTheyAreTaken := by
  refine ⟨⟨fun code ps s frame unknown => ?unknown, fun code rest w c straps instant s held ready waits known => ?busy,
    fun ps n code c straps instant s frame known bad => ?length,
    fun ps n code c instant s frame known length fresh => ?early⟩, fun straps instant ps s frame => ?setup⟩
  case unknown =>
    have raised : s.unknownReady = true := by simp [State.unknownReady, frame.2.2, unknown]
    rw [exec, execUnknownCommand, State.act_taken _ frame.1 raised, State.takeFrame_length _ frame rfl]
  case busy =>
    obtain known | ⟨rfl, unknown⟩ := known
    · obtain ⟨lengthOk, needsSetup, takes⟩ := exec_takes straps instant _ known
      exact takes.busy held ready waits
    · have raised : s.unknownReady = true := by simp [State.unknownReady, ready, unknown]
      rw [exec, execUnknownCommand, State.act_taken _ held raised, State.takeFrame_busy _ ready waits]
  case length =>
    obtain ⟨lengthOk, needsSetup, takes, checks⟩ := exec_takes_length straps instant ps _ known
    exact takes.length frame (checks.trans (decide_eq_false bad))
  case early =>
    obtain ⟨lengthOk, takes, checks⟩ := exec_takes_configured instant ps _ known
    exact takes.early frame (checks.trans (decide_eq_true length)) fresh
  case setup =>
    refine ⟨fun bad => ?_, fun length configured => ?_, fun length fresh branch => ?_,
      fun length fresh branch strapped => ?_⟩
    · have takes : TakesFrame (.setup straps instant) 0x01 (lengthIs 15) false := ⟨_, fun _ => rfl⟩
      exact takes.length frame (decide_eq_false bad)
    · rw [exec_setup frame length, if_pos configured]
    · rw [exec_setup frame length, if_neg (by simp [fresh]), if_pos branch]
    · rw [exec_setup frame length, if_neg (by simp [fresh]), if_neg (Nat.not_lt.mpr branch),
        if_pos (Nat.succ_le_of_lt strapped)]

end Sys2Proof.Machine
end

section
-- Proofs elaborated in order keep the number of threads within what the check's memory limit allows.
set_option Elab.async false
/-! The commands of a session and the reads of the charger port (R155, R156, R160, R163, R180 to R186), the
requests of the view store (R68, R70) and PORT RESET (R187). -/

namespace Sys2Proof.Machine

/-! ### Changes of the session state (R164) -/

section SetSession

variable {s : State} {c : Cause}

/-- A change to a state other than INTENT, CONNECTED and FAULT. -/
theorem State.setSession_rest {n : SessionState} (changes : s.session.state ≠ n)
    (plain : n ≠ .intent ∧ n ≠ .connected ∧ n ≠ .fault) :
    s.setSession n c =
      { s with
        session := { s.session with state := n, overdrawRun := 0 }
        due := { s.due with overdraw := none, reportLost := none }
        notices := s.notices.push (s.sessionNotice n c) } := by
  obtain ⟨noIntent, noConnected, noFault⟩ := plain
  simp only [State.setSession, changes, noIntent, noConnected, noFault, false_and, if_false]
  rfl

/-- The entry into INTENT (R134, R158). -/
theorem State.setSession_intent (changes : s.session.state ≠ .intent) :
    s.setSession .intent c =
      { s with
        session := { s.session with state := .intent, overdrawRun := 0 }
        turn := { s.turn with intentAge := 0 }
        due := { s.due with overdraw := none, reportLost := none }
        notices := s.notices.push (s.sessionNotice .intent c) } := by
  simp [State.setSession, changes, sessionNoticeValue]

end SetSession

/-! ### DOCK (R155, R180) -/

theorem flagBit_eq (n : Nat) (p : Prop) [Decidable p] : flagBit n (decide p) = if p then 2 ^ n else 0 := by
  unfold flagBit
  split <;> simp_all

/-- The response to a command that clamps, with the length of its data. -/
theorem clampedResponse_eq (mask : Nat) (data : List Byte) :
    clampedResponse mask data =
      if mask = 0 then 0x80 :: BitVec.ofNat 8 data.length :: data
      else 0x81 :: BitVec.ofNat 8 (data.length + 2) :: (byte2 mask ++ data) := rfl

/-- The bytes of Table 11-5 for a record (R192). -/
theorem recordBytes_some (st : SessionState) (r : Record) :
    recordBytes st (some r) =
      [BitVec.ofNat 8 (sessionCode st), BitVec.ofNat 8 (r.vehicle.toNat / 16777216),
        BitVec.ofNat 8 (r.vehicle.toNat / 65536), BitVec.ofNat 8 (r.vehicle.toNat / 256),
        BitVec.ofNat 8 r.vehicle.toNat,
        BitVec.ofNat 8 ((if r.floor.isSome then 1 else 0) + (if r.departure.isSome then 2 else 0)
          + (if r.vehicleClass.isSome then 4 else 0)),
        BitVec.ofNat 8 (r.maxAccept / 256), BitVec.ofNat 8 r.maxAccept, BitVec.ofNat 8 (r.floor.getD 0 / 256),
        BitVec.ofNat 8 (r.floor.getD 0), BitVec.ofNat 8 (r.energyNeeded / 256), BitVec.ofNat 8 r.energyNeeded,
        BitVec.ofNat 8 (r.departure.getD 0 / 256), BitVec.ofNat 8 (r.departure.getD 0),
        (if r.vehicleClass = some .urgent then 1 else 0), BitVec.ofNat 8 (r.delivered / 256),
        BitVec.ofNat 8 r.delivered] := by
  have class_byte : BitVec.ofNat 8 ((r.vehicleClass.map classCode).getD 0)
      = if r.vehicleClass = some .urgent then 1 else 0 := by
    obtain _ | _ | _ := r.vehicleClass <;> rfl
  rw [← class_byte, show r.vehicle.toNat / 16777216 = r.vehicle.toNat / 65536 / 256 by
    rw [Nat.div_div_eq_div_mul]]
  rfl

theorem recordBytes_length (st : SessionState) (r : Record) : (recordBytes st (some r)).length = 17 := by
  rw [recordBytes_some]
  rfl

/-- DOCK of the right length after SETUP. -/
theorem exec_dock {s : State} {ps : List Byte} (frame : s.taking 0x03 ps) (length : ps.length = 14)
    (configured : s.configured = true) :
    exec .dock s =
      .next (if s.session.state.acceptsDock then ({ s with port := s.port.taken } : State).takeDock ps
      else { s with port := s.port.answering [0xC1, 0] }) := by
  unfold exec execDock
  exact State.act_takeFrame _ frame (by simpa [lengthIs] using length) fun _ => configured

theorem SessionState.acceptsDock_iff (st : SessionState) :
    st.acceptsDock = true ↔ st = .docked ∨ st = .released := by
  cases st <;> simp [SessionState.acceptsDock]

/-- The record of a DOCK, field by field (R155). -/
theorem dockRecord_eq (ps : List Byte) :
    dockRecord ps =
      { vehicle := BitVec.ofNat 32 (param4 ps 1), maxAccept := min 1000 (param2 ps 5)
        floor := if (param1 ps 0).testBit 0 then some (min (param2 ps 7) (min 1000 (param2 ps 5))) else none
        energyNeeded := min 9999 (param2 ps 9)
        departure := if (param1 ps 0).testBit 1 then some (param2 ps 11) else none
        vehicleClass :=
          if (param1 ps 0).testBit 2 then some (if param1 ps 13 = 1 then .urgent else .normal) else none
        delivered := 0, accumulator := 0 } := by
  simp only [dockRecord, freshRecord, Record.write, dockFields, Carried.newMaxAccept, Carried.askedFloor,
    markedField, dockVehicle, Option.or_none, Record.mk.injEq, true_and, and_true]
  refine ⟨?_, ?_⟩ <;> split <;> rfl

theorem above_some (limit value : Nat) : above limit (some value) = decide (limit < value) := rfl

theorem above_markedField (limit marks bit value : Nat) :
    above limit (markedField marks bit value) = decide (marks.testBit bit = true ∧ limit < value) := by
  unfold markedField
  split <;> simp_all [above]

/-- The clamp mask of a DOCK (11, section 11.2). -/
theorem dockMask_eq (ps : List Byte) :
    (dockFields ps).clampMask (freshRecord (dockVehicle ps)) =
      (if 1000 < param2 ps 5 then 1 else 0)
        + (if (param1 ps 0).testBit 0 ∧ min 1000 (param2 ps 5) < param2 ps 7 then 2 else 0)
        + (if 9999 < param2 ps 9 then 4 else 0)
        + (if (param1 ps 0).testBit 2 ∧ 1 < param1 ps 13 then 8 else 0) := by
  simp only [Carried.clampMask, dockFields, Carried.newMaxAccept, Carried.askedFloor, freshRecord, Option.or_none,
    above_markedField, above_some, flagBit_eq]
  rfl

/-- The effect of a DOCK (R155, R158), and its response. -/
theorem State.takeDock_eq {s : State} (ps : List Byte) (changes : s.session.state ≠ .intent) :
    s.takeDock ps =
      { s with
        session := { s.session with state := .intent, record := some (dockRecord ps), overdrawRun := 0 }
        turn := { s.turn with intentAge := 0 }
        due := { s.due with overdraw := none, reportLost := none }
        notices := s.notices.push (s.sessionNotice .intent .dockCommand) }.respond
        (clampedResponse ((dockFields ps).clampMask (freshRecord (dockVehicle ps)))
          (recordBytes .intent (some (dockRecord ps)))) := by
  rw [State.takeDock, State.setSession_intent (by exact changes)]

/-- Settles O45: DOCK's record and mask are the bytes of the frame, and the state decides. -/
theorem dockBuildsTheRecord : Obligations.DockBuildsTheRecord := by
  refine ⟨fun ps s frame length configured => ⟨fun accepts => ?accepted, fun notDocked notReleased => ?refused⟩,
    fun st => ⟨rfl, recordBytes_some st⟩⟩
  case accepted =>
    have changes : s.session.state ≠ .intent := by obtain docked | released := accepts <;> simp [*]
    rw [exec_dock frame length configured, if_pos ((SessionState.acceptsDock_iff _).mpr accepts), 
      State.takeDock_eq ps (by exact changes), clampedResponse_eq, dockMask_eq, recordBytes_length, dockRecord_eq]
    rfl
  case refused =>
    rw [exec_dock frame length configured, if_neg (by simp [SessionState.acceptsDock_iff, *])]

/-! ### UPDATE VEHICLE (R156, R180) -/

/-- A flag above the bits of a number is that bit of the sum. -/
theorem testBit_add_flagBit {m n : Nat} (small : m < 2 ^ n) (b : Bool) (i : Nat) :
    (m + flagBit n b).testBit i = if i = n then b else m.testBit i := by
  cases b with
  | false =>
    simp only [flagBit, Bool.false_eq_true, if_false, Nat.add_zero]
    split
    next same => rw [same, Nat.testBit_lt_two_pow small]
    · rfl
  | true =>
    simp only [flagBit, if_true, Nat.add_comm m]
    obtain below | rfl | beyond := Nat.lt_trichotomy i n
    · rw [if_neg below.ne, Nat.testBit_two_pow_add_gt below]
    · rw [if_pos rfl, Nat.testBit_two_pow_add_eq, Nat.testBit_lt_two_pow small]
      rfl
    · rw [if_neg beyond.ne', Nat.testBit_lt_two_pow (small.trans (Nat.pow_lt_pow_right (by decide) beyond)),
        Nat.testBit_lt_two_pow]
      calc 2 ^ n + m < 2 ^ n + 2 ^ n := Nat.add_lt_add_left small _
        _ = 2 ^ (n + 1) := by rw [Nat.pow_succ, Nat.mul_two]
        _ ≤ 2 ^ i := Nat.pow_le_pow_right (by decide) beyond

theorem add_flagBit_lt {m n : Nat} (small : m < 2 ^ n) (b : Bool) : m + flagBit n b < 2 ^ (n + 1) := by
  have flag : flagBit n b ≤ 2 ^ n := by
    unfold flagBit
    split
    · exact le_rfl
    · exact Nat.zero_le _
  rw [Nat.pow_succ, Nat.mul_two]
  exact Nat.add_lt_add_of_lt_of_le small flag

/-- The bits of the clamp mask of DOCK and UPDATE VEHICLE (11, section 11.2). -/
theorem Carried.clampMask_testBit (c : Carried) (r : Record) :
    (c.clampMask r).testBit 0 = above 1000 c.maxAccept
      ∧ (c.clampMask r).testBit 1 = above (c.newMaxAccept r.maxAccept) (c.askedFloor r.floor)
      ∧ (c.clampMask r).testBit 2 = above 9999 c.energyNeeded ∧ (c.clampMask r).testBit 3 = above 1 c.classByte
      ∧ c.clampMask r < 16 := by
  unfold Carried.clampMask
  generalize above 1000 c.maxAccept = accept, above (c.newMaxAccept r.maxAccept) (c.askedFloor r.floor) = floor,
    above 9999 c.energyNeeded = energy, above 1 c.classByte = cls
  cases accept <;> cases floor <;> cases energy <;> cases cls <;> decide

/-- A clamp moves a figure exactly where it lies above the limit. -/
theorem above_iff_clamped (limit : Nat) (f : Option Nat) :
    above limit f = true ↔ (f.map fun n => min n limit) ≠ f := by
  cases f with
  | none => simp [above]
  | some n => simp [above]

/-- UPDATE VEHICLE of the right length after SETUP. -/
theorem exec_updateVehicle {s : State} {ps : List Byte} (frame : s.taking 0x04 ps) (length : ps.length = 10)
    (configured : s.configured = true) :
    exec .updateVehicle s =
      .next (if s.session.state.charging then ({ s with port := s.port.taken } : State).takeUpdate ps
      else { s with port := s.port.answering [0xC1, 0] }) := by
  unfold exec execUpdateVehicle
  exact State.act_takeFrame _ frame (by simpa [lengthIs] using length) fun _ => configured

theorem SessionState.charging_iff (st : SessionState) :
    st.charging = true ↔ st = .intent ∨ st = .precharge ∨ st = .connected := by
  cases st <;> simp [SessionState.charging]

/-- The maximum accept of an UPDATE VEHICLE (R156). -/
theorem updateFields_newMaxAccept (ps : List Byte) (old : Nat) :
    (updateFields ps).newMaxAccept old = if (param1 ps 0).testBit 0 then min 1000 (param2 ps 1) else old := by
  simp only [Carried.newMaxAccept, updateFields, markedField]
  split <;> simp_all

theorem updateFields_askedFloor (ps : List Byte) (old : Option Nat) :
    (updateFields ps).askedFloor old = if (param1 ps 0).testBit 1 then some (param2 ps 3) else old := by
  simp only [Carried.askedFloor, updateFields, markedField]
  split <;> simp

/-- The record after an UPDATE VEHICLE, field by field (R156). -/
theorem Record.write_updateFields (r : Record) (ps : List Byte) :
    r.write (updateFields ps) =
      { r with
        maxAccept := if (param1 ps 0).testBit 0 then min 1000 (param2 ps 1) else r.maxAccept
        floor := (if (param1 ps 0).testBit 1 then some (param2 ps 3) else r.floor).map fun f =>
          min f (if (param1 ps 0).testBit 0 then min 1000 (param2 ps 1) else r.maxAccept)
        energyNeeded := if (param1 ps 0).testBit 2 then min 9999 (param2 ps 5) else r.energyNeeded
        departure := if (param1 ps 0).testBit 3 then some (param2 ps 7) else r.departure
        vehicleClass :=
          if (param1 ps 0).testBit 4 then some (if param1 ps 9 = 1 then .urgent else .normal)
          else r.vehicleClass } := by
  have energy : (match (updateFields ps).energyNeeded with | some n => min 9999 n | none => r.energyNeeded)
      = if (param1 ps 0).testBit 2 then min 9999 (param2 ps 5) else r.energyNeeded := by
    simp only [updateFields, markedField]
    split <;> simp_all
  have departure : (updateFields ps).departure.or r.departure
      = if (param1 ps 0).testBit 3 then some (param2 ps 7) else r.departure := by
    simp only [updateFields, markedField]
    split <;> simp
  have cls : ((updateFields ps).classByte.map classOfCode).or r.vehicleClass
      = if (param1 ps 0).testBit 4 then some (if param1 ps 9 = 1 then .urgent else .normal)
        else r.vehicleClass := by
    simp only [updateFields, markedField]
    split <;> rfl
  simp only [Record.write, updateFields_newMaxAccept, updateFields_askedFloor, departure, cls]
  congr 1

/-- Settles O46: the record and the mask are those of the marked fields, and the state decides. -/
theorem updateVehicleWritesTheMarkedFields : Obligations.UpdateVehicleWritesTheMarkedFields := by
  have refused {ps : List Byte} {s : State} (frame : s.taking 0x04 ps) (length : ps.length = 10)
      (configured : s.configured = true) (noIntent : s.session.state ≠ .intent)
      (noPrecharge : s.session.state ≠ .precharge) (noConnected : s.session.state ≠ .connected) :
      exec .updateVehicle s = .next { s with port := s.port.answering [0xC1, 0] } := by
    rw [exec_updateVehicle frame length configured, if_neg (by simp [SessionState.charging_iff, *])]
  refine ⟨fun ps r s frame length configured record => ⟨fun charges => ?accepted, refused frame length configured⟩,
    fun ps s => refused⟩
  rw [exec_updateVehicle frame length configured, if_pos ((SessionState.charging_iff _).mpr charges)]
  obtain ⟨accept, floor, energy, cls, small⟩ := (updateFields ps).clampMask_testBit r
  have written : (if (param1 ps 0).testBit 1 then some (param2 ps 3) else r.floor).map (fun f =>
      min f (if (param1 ps 0).testBit 0 then min 1000 (param2 ps 1) else r.maxAccept))
      = if (param1 ps 0).testBit 1 then
          some (min (param2 ps 3) (if (param1 ps 0).testBit 0 then min 1000 (param2 ps 1) else r.maxAccept))
        else r.floor.map fun f => min f (if (param1 ps 0).testBit 0 then min 1000 (param2 ps 1) else r.maxAccept) :=
    apply_ite (Option.map _) _ _ _
  refine ⟨_, (updateFields ps).clampMask r, rfl, ?_, ?_, ?_, ?_, small, ?_⟩
  · rw [accept]
    simp [updateFields, above_markedField]
  · rw [floor, above_iff_clamped, updateFields_newMaxAccept, updateFields_askedFloor, ← written]
  · rw [energy]
    simp [updateFields, above_markedField]
  · rw [cls]
    simp [updateFields, above_markedField]
  · simp only [State.takeUpdate, State.updateMask, record, Option.map_some, clampedResponse_eq, recordBytes_length,
      Record.write_updateFields, ← written]
    rfl

end Sys2Proof.Machine
end

section
-- Proofs elaborated in order keep the number of threads within what the check's memory limit allows.
set_option Elab.async false
/-! END, CLEAR FAULT, the reads, the requests of the view store and PORT RESET (R160, R163, R181 to R187). -/

namespace Sys2Proof.Machine

/-! ### END (R160, R181) -/

/-- A request for an opening writes the open mode only (R147). -/
theorem Seq.requestOpen_frame (q : Seq) (m : OpenMode) :
    q.requestOpen m = { q with openMode := (q.requestOpen m).openMode } := rfl

/-- NORMAL is taken where the open mode is NONE and the phase is not IDLE (R147). -/
theorem Seq.requestOpen_normal_of_none {q : Seq} (free : q.openMode = .none) (busy : q.phase ≠ .idle) :
    (q.requestOpen .normal).openMode = .normal := by
  simp [Seq.requestOpen, free, busy]

theorem Seq.requestOpen_normal_of_some {q : Seq} (asked : q.openMode ≠ .none) :
    (q.requestOpen .normal).openMode = q.openMode := by
  simp [Seq.requestOpen, asked]

theorem State.takeEnd_of_intent {s : State} (intent : s.session.state = .intent) :
    s.takeEnd =
      { s with
        session := { s.session with state := .released, overdrawRun := 0 }
        due := { s.due with overdraw := none, reportLost := none }
        notices := s.notices.push (s.sessionNotice .released .endCommand) } := by
  have target : endTarget s.session.state = .released := by rw [intent]; rfl
  rw [State.takeEnd, target, State.setSession_rest (by simp [intent]) (by decide)]
  rfl

theorem State.takeEnd_of_charging {s : State} (charges : s.session.state = .precharge ∨ s.session.state = .connected) :
    s.takeEnd =
      { s with
        session := { s.session with state := .stopping, overdrawRun := 0 }
        seq := s.seq.requestOpen .normal
        due := { s.due with overdraw := none, reportLost := none }
        notices := s.notices.push (s.sessionNotice .stopping .endCommand) } := by
  have target : endTarget s.session.state = .stopping := by obtain h | h := charges <;> rw [h] <;> rfl
  have changes : s.session.state ≠ .stopping := by obtain h | h := charges <;> rw [h] <;> decide
  rw [State.takeEnd, target, State.setSession_rest changes (by decide)]
  simp [changes]

/-- The response of a command that begins to wait is lost where its transaction has closed (R176). -/
theorem Txn.lost_eq (txn : Txn) : (txn != .execute) = decide (txn ≠ .execute) := by
  cases txn <;> rfl

theorem exec_endCharge {s : State} (frame : s.taking 0x05 []) (configured : s.configured = true) :
    exec .endCharge s =
      .next (if s.holdsEvents then
        ({ s with port := s.port.taken }.holdEvent .endCommand).wait .endCommand
      else State.endNow { s with port := s.port.taken }) := by
  unfold exec execEndCharge
  exact State.act_takeFrame _ frame rfl fun _ => configured

theorem State.holdsEvents_iff (s : State) :
    s.holdsEvents = true ↔ s.turn.deciding = true ∧ s.turn.ownCandidate.isSome = true := by
  simp [State.holdsEvents]

theorem State.endNow_accepted {s : State} (charges : s.session.state.charging = true) :
    s.endNow = s.takeEnd.respond (endAnswer true s.takeEnd.session.state) := if_pos charges

theorem State.endNow_refused {s : State} (rests : ¬s.session.state.charging = true) :
    s.endNow = s.refuse rspRefusedState := if_neg rests

/-- Settles O47: held during a decision, and otherwise one equation for each kind of state. -/
theorem endActsBySessionStateOrWaits : Obligations.EndActsBySessionStateOrWaits := by
  intro s frame configured
  rw [exec_endCharge frame configured]
  refine ⟨fun deciding candidate => ?held, fun idle => ⟨fun intent => ?intent, fun charges => ?charging,
    fun noIntent noPrecharge noConnected => ?refused⟩⟩
  case held =>
    rw [if_pos ((State.holdsEvents_iff s).mpr ⟨deciding, candidate⟩)]
    simp only [State.wait, State.holdEvent, Txn.lost_eq]
  all_goals
    rw [if_neg (by rw [State.holdsEvents_iff]; obtain idle | idle := idle <;> simp [idle])]
  case intent =>
    rw [State.endNow_accepted (by simp [SessionState.charging_iff, intent]),
      State.takeEnd_of_intent (by exact intent)]
    rfl
  case charging =>
    rw [State.endNow_accepted (by simp only [SessionState.charging_iff]; exact .inr charges),
      State.takeEnd_of_charging (by exact charges)]
    exact ⟨_, rfl, Seq.requestOpen_normal_of_none, Seq.requestOpen_normal_of_some, rfl⟩
  case refused =>
    rw [State.endNow_refused (by simp [SessionState.charging_iff, noIntent, noPrecharge, noConnected])]
    rfl

/-! ### CLEAR FAULT (R150, R163) -/

theorem exec_clearFault {s : State} (frame : s.taking 0x06 []) (configured : s.configured = true) :
    exec .clearFault s =
      .next (if s.session.state = .fault ∧ s.clearAllowed = true then
        (State.takeClear { s with port := s.port.taken }).respond
          (responseFrame rspDone (byte1 (sessionCode s.restState)))
      else { s with port := s.port.answering [0xC1, 0] }) := by
  unfold exec execClearFault
  exact State.act_takeFrame _ frame rfl fun _ => configured

theorem State.clearAllowed_iff (s : State) :
    s.clearAllowed = true ↔ s.seq.preDrive = false ∧ s.seq.mainDrive = false
      ∧ s.qual.preFb.level = false ∧ s.qual.mainFb.level = false := by
  simp [State.clearAllowed, State.feedback, and_assoc]

/-- The state after a stop is neither INTENT, CONNECTED nor FAULT (R159). -/
theorem State.restState_plain (s : State) :
    s.restState ≠ .intent ∧ s.restState ≠ .connected ∧ s.restState ≠ .fault := by
  unfold State.restState
  split <;> decide

theorem State.takeClear_eq {s : State} (fault : s.session.state = .fault) :
    s.takeClear =
      { s with
        seq := s.seq.cleared
        session := { s.session with state := s.restState, overdrawRun := 0 }
        due := { s.due with overdraw := none, reportLost := none }
        notices := s.notices.push (s.sessionNotice s.restState .clearFault) } := by
  rw [State.takeClear, State.setSession_rest (by exact fault.trans_ne s.restState_plain.2.2.symm) s.restState_plain]

/-- Settles O48: the clear is allowed by the state, the drives and the feedbacks. -/
theorem clearFaultReturnsTheSequencerToIdle : Obligations.ClearFaultReturnsTheSequencerToIdle := by
  intro s frame configured
  rw [exec_clearFault frame configured]
  refine ⟨fun allowed => ?_, fun refused => ?_⟩
  · rw [if_pos ⟨allowed.1, s.clearAllowed_iff.mpr allowed.2⟩, State.takeClear_eq (by exact allowed.1)]
    rfl
  · rw [if_neg (by rwa [s.clearAllowed_iff])]

/-! ### The reads (R182, R183, R186) -/

theorem exec_readStatus {s : State} (frame : s.taking 0x10 []) :
    exec .readStatus s =
      .next { s with
        notices := { s.notices with lost := false }
        port := s.port.answering (responseFrame rspDone s.statusBytes) } := by
  unfold exec execReadStatus
  exact State.act_takeFrame _ frame rfl nofun

theorem exec_readGrant {s : State} (frame : s.taking 0x11 []) (configured : s.configured = true) :
    exec .readGrant s = .next { s with port := s.port.answering (responseFrame rspDone s.grantBytes) } := by
  unfold exec execReadGrant
  exact State.act_takeFrame _ frame rfl fun _ => configured

theorem exec_identify {s : State} (straps : BitVec 6) (frame : s.taking 0x15 []) :
    exec (.identify straps) s =
      .next { s with
        inputs := { s.inputs with straps := straps }
        port := s.port.answering (responseFrame rspDone (s.identifyBytes straps)) } := by
  unfold exec execIdentify
  exact State.act_takeFrame _ frame rfl nofun

theorem Session.deliveredEnergy_eq (q : Session) : q.deliveredEnergy = (q.record.map Record.delivered).getD 0 := by
  unfold Session.deliveredEnergy
  split <;> simp [*]

theorem byte4_eq (n : Nat) :
    byte4 n = [BitVec.ofNat 8 (n / 16777216), BitVec.ofNat 8 (n / 65536), BitVec.ofNat 8 (n / 256),
      BitVec.ofNat 8 n] := by
  rw [show n / 16777216 = n / 65536 / 256 by rw [Nat.div_div_eq_div_mul]]
  rfl

/-- The flag byte of READ STATUS (Table 11-5). -/
theorem State.statusFlags (s : State) :
    flagBit 0 (s.port.resetCause == .port) + flagBit 1 s.limit.inForce + flagBit 2 s.notices.lost
      = (if s.port.resetCause = .port then 1 else 0) + (if s.limit.inForce then 2 else 0)
        + (if s.notices.lost then 4 else 0) := by
  simp only [flagBit, beq_iff_eq]
  rfl

/-- Settles O49: the bytes of Table 11-5, and the codes evaluated. -/
theorem readsAnswerWithTheFiguresOfTheInstant : Obligations.ReadsAnswerWithTheFiguresOfTheInstant := by
  refine ⟨fun s frame => ?status, fun s frame configured => ?grant, fun straps s frame => ?identify, by decide,
    by decide, ⟨fun n => ⟨rfl, rfl, byte4_eq n⟩, fun c => rfl⟩, fun ps i => ⟨rfl, rfl, rfl⟩⟩
  case status =>
    rw [exec_readStatus frame, State.statusBytes, Session.deliveredEnergy_eq, State.statusFlags]
    rfl
  case grant =>
    rw [exec_readGrant frame configured]
    rfl
  case identify =>
    rw [exec_identify straps frame]
    rfl

end Sys2Proof.Machine
end

section
-- Proofs elaborated in order keep the number of threads within what the check's memory limit allows.
set_option Elab.async false
/-! The requests of the view store and its arbiter (R68, R70, R184, R185), PORT RESET (R187) and SETUP (R178). -/

namespace Sys2Proof.Machine

/-! ### READ VIEW and RELEASE HELD (R184, R185) -/

theorem exec_readView {s : State} {ps : List Byte} (frame : s.taking 0x12 ps) (length : ps.length = 3)
    (configured : s.configured = true) :
    exec .readView s =
      .next (if viewParamsOk ps then
        ({ s with port := s.port.taken } : State).waitForStore (viewRequest ps) .readView
      else { s with port := s.port.answering [0xC3, 0] }) := by
  unfold exec execReadView
  exact State.act_takeFrame _ frame (by simpa [lengthIs] using length) fun _ => configured

theorem exec_releaseHeld {s : State} {ps : List Byte} (frame : s.taking 0x14 ps)
    (length : ps.length = 1 + 2 * param1 ps 0) (configured : s.configured = true) :
    exec .releaseHeld s =
      .next (if releaseParamsOk ps then
        ({ s with port := s.port.taken } : State).waitForStore (.releaseHeld (rangesOfParams ps)) .releaseHeld
      else { s with port := s.port.answering [0xC3, 0] }) := by
  unfold exec execReleaseHeld
  exact State.act_takeFrame _ frame (by simpa [releaseLengthOk] using length) fun _ => configured

/-- A command that begins to wait for the store, with its frame taken (R68, R176). -/
theorem State.waitForStore_taken (s : State) (c : WaitingCommand) (a : Access) :
    ({ s with port := s.port.taken } : State).waitForStore c a =
      { s with
        store := s.store.request a
        port :=
          { s.port with
            ready := none
            waiting := some { command := c, responseLost := decide (s.port.txn ≠ .execute) } } } := by
  rw [← Txn.lost_eq]
  rfl

theorem continueByte_iff (start : Byte) : start.toNat = continueByte ↔ start = 0xFF :=
  BitVec.toNat_inj (y := (0xFF : Byte))

/-- READ VIEW's parameters are in range (R184). -/
theorem viewParamsOk_iff (start count flags : Byte) :
    viewParamsOk [start, count, flags] = true ↔
      (start.toNat ≤ 35 ∨ start = 0xFF) ∧ 1 ≤ count.toNat ∧ count.toNat ≤ 6 := by
  rw [← continueByte_iff, ← Nat.lt_succ_iff]
  simp [viewParamsOk, param1, Config.pads, and_assoc]

theorem viewRequest_eq (start count flags : Byte) :
    viewRequest [start, count, flags] =
      .readView (if start = 0xFF then none else some start.toNat) count.toNat (flags.getLsbD 0) := by
  simp only [viewRequest, param1, List.getD_cons_zero, List.getD_cons_succ, continueByte_iff]
  rfl

/-! The ranges of RELEASE HELD (Table 11-3) -/

/-- The parameter bytes of some ranges, after the byte of their count. -/
def rangeParams (ranges : List (Byte × Byte)) : List Byte :=
  BitVec.ofNat 8 ranges.length :: ranges.flatMap fun r => [r.1, r.2]

theorem rangeParams_length (ranges : List (Byte × Byte)) : (rangeParams ranges).length = 1 + 2 * ranges.length := by
  simp [rangeParams, List.length_flatMap, Nat.add_comm, Nat.mul_comm]

theorem param1_rangeParams_zero {ranges : List (Byte × Byte)} (few : ranges.length < 128) :
    param1 (rangeParams ranges) 0 = ranges.length := by
  simp only [param1, rangeParams, List.getD_cons_zero, BitVec.toNat_ofNat]
  omega

/-- Range `i` stands in the two bytes from `2 * i`. -/
theorem getD_flatMap_pairs (ranges : List (Byte × Byte)) (i : Nat) :
    (ranges.flatMap fun r => [r.1, r.2]).getD (2 * i) 0 = (ranges.getD i (0, 0)).1
      ∧ (ranges.flatMap fun r => [r.1, r.2]).getD (2 * i + 1) 0 = (ranges.getD i (0, 0)).2 := by
  induction ranges generalizing i with
  | nil => exact ⟨rfl, rfl⟩
  | cons r ranges ih =>
    cases i with
    | zero => exact ⟨rfl, rfl⟩
    | succ i => exact ih i

/-- The ranges are read as they were written. -/
theorem rangesOfParams_rangeParams {ranges : List (Byte × Byte)} (few : ranges.length < 128) :
    rangesOfParams (rangeParams ranges) = ranges.map fun r => (r.1.toNat, r.2.toNat) := by
  rw [rangesOfParams, param1_rangeParams_zero few]
  refine List.ext_getElem (by simp) fun i inside inside' => ?_
  obtain ⟨first, second⟩ := getD_flatMap_pairs ranges i
  have pos : i < ranges.length := by simpa using inside'
  rw [List.getD_eq_getElem _ _ pos] at first second
  simp only [List.getElem_map, List.getElem_range, param1, rangeParams, Nat.add_comm _ (2 * i),
    List.getD_cons_succ, first, second]

/-- RELEASE HELD's parameters are in range (R185). -/
theorem releaseParamsOk_iff {ranges : List (Byte × Byte)} (few : ranges.length < 128) :
    releaseParamsOk (rangeParams ranges) = true ↔
      1 ≤ ranges.length ∧ ranges.length ≤ 8 ∧ ∀ r ∈ ranges, 1 ≤ r.2.toNat ∧ r.2.toNat ≤ 36 := by
  simp only [releaseParamsOk, param1_rangeParams_zero few, rangesOfParams_rangeParams few, Bool.and_eq_true,
    decide_eq_true_eq, List.all_eq_true, List.forall_mem_map, and_assoc]
  rfl

/-! ### The arbiter (R68, R70) -/

/-- Of the frame receiver and the snapshot the one that was requested first is granted first (R70). -/
theorem nextAccess_first {before rest : List Access} {a : Access} (rank : a = .claimWrite ∨ a = .snapshot)
    (others : ∀ b ∈ before, b = .claimWrite ∨ b = .snapshot → b = a) :
    nextAccess (before ++ a :: rest) = some a := by
  have found : (before ++ a :: rest).find? (fun a => a == .claimWrite || a == .snapshot) = some a := by
    rw [List.find?_append]
    cases first : before.find? (fun a => a == .claimWrite || a == .snapshot) with
    | none => obtain rfl | rfl := rank <;> rfl
    | some b =>
      rw [others b (List.mem_of_find?_eq_some first) (by simpa using List.find?_some first)]
      rfl
  rw [nextAccess, found]

/-- Without either of them the order is the expected-commit write, the sweep, the charger port (R70). -/
theorem nextAccess_rest {waiting : List Access} (noClaim : .claimWrite ∉ waiting) (noSnapshot : .snapshot ∉ waiting) :
    nextAccess waiting =
      if .expectedWrite ∈ waiting then some .expectedWrite
      else if .sweep ∈ waiting then some .sweep
      else waiting.head? := by
  have none_found : waiting.find? (fun a => a == .claimWrite || a == .snapshot) = none := by
    rw [List.find?_eq_none]
    intro a member
    simp only [Bool.or_eq_true, beq_iff_eq]
    rintro (rfl | rfl)
    · exact noClaim member
    · exact noSnapshot member
  simp [nextAccess, none_found]

theorem nextAccess_isSome {waiting : List Access} (waits : waiting ≠ []) : ∃ a, nextAccess waiting = some a := by
  unfold nextAccess
  split
  · exact ⟨_, rfl⟩
  · split_ifs
    · exact ⟨_, rfl⟩
    · exact ⟨_, rfl⟩
    · exact ⟨_, List.head?_eq_some_head waits⟩

/-- Settles O50: the two commands wait with their parameters in range, and the arbiter's order is that of the next
access. -/
theorem viewCommandsWaitForTheStore : Obligations.ViewCommandsWaitForTheStore := by
  refine ⟨fun start count flags s frame configured => ?view, fun ranges s frame configured few => ?release,
    fun a st => ⟨fun free => ?free, fun busy => ?busy, fun idle => ?idle, fun waits => ?waits⟩⟩
  case view =>
    rw [exec_readView frame rfl configured]
    refine ⟨fun ok => ?_, fun bad => ?_⟩
    · rw [if_pos ((viewParamsOk_iff _ _ _).mpr ok), State.waitForStore_taken, viewRequest_eq]
    · rw [if_neg (mt (viewParamsOk_iff _ _ _).mp bad)]
  case release =>
    change s.taking 0x14 (rangeParams ranges) at frame
    rw [exec_releaseHeld frame (by rw [rangeParams_length, param1_rangeParams_zero few]) configured]
    refine ⟨fun ok => ?_, fun bad => ?_⟩
    · rw [if_pos ((releaseParamsOk_iff few).mpr ok), State.waitForStore_taken, rangesOfParams_rangeParams few]
    · rw [if_neg (mt (releaseParamsOk_iff few).mp bad)]
  case free => rw [Store.request, free]
  case busy =>
    obtain ⟨free, -⟩ | ⟨-, grant, waiting⟩ := st.request_cases a
    · exact absurd free busy
    · rw [← grant, ← waiting]
  case idle => rw [Store.release, idle]; rfl
  case waits =>
    obtain ⟨b, next⟩ := nextAccess_isSome waits
    refine ⟨b, nextAccess_mem next, by rw [Store.release, next], ?_, ?_, ?_⟩
    · intro before rest order noSnapshot
      rw [order, nextAccess_first (.inl rfl)] at next
      · exact (Option.some.inj next).symm
      · rintro b member (rfl | rfl)
        · rfl
        · exact absurd member noSnapshot
    · intro before rest order noClaim
      rw [order, nextAccess_first (.inr rfl)] at next
      · exact (Option.some.inj next).symm
      · rintro b member (rfl | rfl)
        · exact absurd member noClaim
        · rfl
    · intro noClaim noSnapshot
      rw [nextAccess_rest noClaim noSnapshot] at next
      refine ⟨fun expected => ?_, fun noExpected => ⟨fun sweep => ?_, fun noSweep => ?_⟩⟩
      · rw [if_pos expected] at next
        exact (Option.some.inj next).symm
      · rw [if_neg noExpected, if_pos sweep] at next
        exact (Option.some.inj next).symm
      · rwa [if_neg noExpected, if_neg noSweep] at next

/-! ### PORT RESET (R187) -/

theorem exec_portReset {s : State} {instant : Nat} (frame : s.taking 0x1F []) (configured : s.configured = true) :
    exec (.portReset instant) s =
      .next (if s.resetAllowed then ({ s with port := s.port.taken } : State).takePortReset instant
      else { s with port := s.port.answering [0xC1, 0] }) := by
  unfold exec execPortReset
  exact State.act_takeFrame _ frame rfl fun _ => configured

theorem State.resetAllowed_iff (s : State) :
    s.resetAllowed = true ↔ (s.session.state = .vacant ∨ s.session.state = .docked ∨ s.session.state = .intent
      ∨ s.session.state = .released) ∧ s.seq.preDrive = false ∧ s.seq.mainDrive = false := by
  have resettable : s.session.state.resettable = true ↔ s.session.state = .vacant ∨ s.session.state = .docked
      ∨ s.session.state = .intent ∨ s.session.state = .released := by
    cases s.session.state <;> decide
  simp [State.resetAllowed, resettable, and_assoc]

/-- A frame in transmission is abandoned, and otherwise the buffer is reset at once (R17). -/
theorem Line.portReset_cases (l : Line) :
    (l.txActive = false → l.portReset = { l with pending := Half.reset, sent := Half.reset, echo := .notSent })
      ∧ (l.txActive = true → l.portReset = { l with txAbandoned := true })
      ∧ l.portReset.errors = l.errors := by
  unfold Line.portReset
  split
  next sends => exact ⟨fun idle => absurd (sends.symm.trans idle) nofun, fun _ => rfl, rfl⟩
  next idle => exact ⟨fun _ => rfl, fun sends => absurd sends idle, rfl⟩

/-- A computation in progress is discarded, the published results are kept (R114). -/
theorem Share.portReset_cases (sh : Share) :
    sh.portReset.published = sh.published ∧ sh.portReset.phase = .none ∧ (sh.phase = .none → sh.portReset = sh)
      ∧ (sh.phase ≠ .none → sh.portReset.snapshot = none ∧ sh.portReset.participants = []) := by
  unfold Share.portReset
  split
  next idle => exact ⟨rfl, idle, fun _ => rfl, fun busy => absurd idle busy⟩
  next busy => exact ⟨rfl, rfl, fun idle => absurd idle busy, fun _ => ⟨rfl, rfl⟩⟩

/-- Settles O52: every block's part of an accepted PORT RESET, and the refusal. -/
theorem portResetResetsTheBlocksItNames : Obligations.PortResetResetsTheBlocksItNames := by
  intro instant s frame configured
  rw [exec_portReset frame configured]
  refine ⟨fun allowed => ?_, fun refused => ?_⟩
  · obtain ⟨idle, sends, errors⟩ := s.line.portReset_cases
    obtain ⟨published, phase, kept, discarded⟩ := s.share.portReset_cases
    rw [if_pos (s.resetAllowed_iff.mpr allowed)]
    refine ⟨_, rfl, rfl, rfl, idle, sends, rfl, rfl, rfl, rfl, rfl, published, phase, kept, discarded, rfl, rfl, rfl,
      rfl, rfl, rfl, rfl, rfl, rfl, rfl, rfl, rfl, rfl, ?port, rfl, rfl, rfl, rfl, errors, rfl, frame.1, rfl, rfl, rfl⟩
    rw [← Txn.lost_eq]
    rfl
  · rw [if_neg (mt s.resetAllowed_iff.mp refused)]

end Sys2Proof.Machine
end

section
-- Proofs elaborated in order keep the number of threads within what the check's memory limit allows.
set_option Elab.async false
/-! What the session and the sequencer may do to the state (R142, R149, R157 to R164): one relation for the
fields that they write, the effect of a contactor fault, and the commands of the feedback inputs and of SETUP. -/

namespace Sys2Proof.Machine

/-! ### The fields that the session and the sequencer write -/

/-- The state with the fields that a fault, a confirmation or a change of the session writes taken from another. -/
def State.withActs (s t : State) : State :=
  { s with
    seq :=
      { s.seq with
        preConfirm := t.seq.preConfirm, mainConfirm := t.seq.mainConfirm, phase := t.seq.phase,
        openMode := t.seq.openMode }
    session :=
      { s.session with
        state := t.session.state, overdrawRun := t.session.overdrawRun, held := t.session.held }
    turn := { s.turn with barred := t.turn.barred }
    due := { s.due with overdraw := t.due.overdraw, reportLost := t.due.reportLost }
    notices := t.notices }

/-- Nothing but those fields is written. -/
def State.Acts (s t : State) : Prop := t = s.withActs t

namespace State.Acts

variable {s t u : State}

theorem refl (s : State) : s.Acts s := rfl

theorem trans (a : s.Acts t) (b : t.Acts u) : s.Acts u :=
  calc u = t.withActs u := b
    _ = (s.withActs t).withActs u := congrArg (State.withActs · u) a
    _ = s.withActs u := rfl

theorem ite {p : Prop} [Decidable p] (yes : p → s.Acts t) (no : ¬p → s.Acts u) : s.Acts (if p then t else u) := by
  split
  · exact yes ‹_›
  · exact no ‹_›

end State.Acts

/-- A change of the session state leaves the intent age, but on entry into INTENT (R134). -/
theorem State.setSession_acts (s : State) {n : SessionState} (c : Cause)
    (enters : n = .intent → s.session.state = .intent) :
    s.Acts (s.setSession n c) := by
  have turn : (s.setSession n c).turn = s.turn := by
    rw [State.setSession_turn, if_neg fun ⟨intent, other⟩ => other (enters intent)]
  exact State.ext rfl rfl rfl rfl rfl rfl rfl rfl rfl rfl rfl rfl rfl (by rw [State.withActs, turn]) rfl rfl rfl rfl
    rfl rfl rfl

theorem State.contactorsOpen_acts (s : State) : s.Acts s.contactorsOpen := by
  refine s.setSession_acts _ fun intent => ?_
  split at intent
  · exact absurd intent s.restState_plain.1
  · exact intent

/-! ### A contactor fault (R142, R150, R163) -/

/-- What a contactor fault does to the session: FAULT, with the held events discarded on entry (R163). -/
def Session.faulted (q : Session) : Session :=
  { q with state := .fault, overdrawRun := 0, held := if q.state = .fault then q.held else [] }

/-- The SESSION notice of an entry into FAULT, behind a CONTACTOR_FAULT (R164). -/
def State.faultNotice (s : State) (q : NoticeQueue) : NoticeQueue :=
  if s.session.state = .fault then q else q.push (s.sessionNotice .fault .contactorFault)

theorem State.contactorFault_eq (s : State) (c : Contactor) (code : Nat) :
    s.contactorFault c code =
      { s with
        seq := (s.seq.setConfirm c .failed).enterFaulted
        session := s.session.faulted
        turn := s.turn.bar
        due := { s.due with overdraw := none, reportLost := none }
        notices := s.faultNotice (s.notices.push (s.notice .contactorFault none (some code))) } := by
  unfold State.contactorFault State.faultNotice Session.faulted
  by_cases fault : s.session.state = .fault
  · simp [State.setSession, State.raise, State.notice, fault]
  · simp [State.setSession, State.raise, State.notice, State.sessionNotice, sessionNoticeValue, fault]

theorem State.contactorFault_acts (s : State) (c : Contactor) (code : Nat) : s.Acts (s.contactorFault c code) := by
  rw [State.contactorFault_eq, State.Acts]
  cases c with
  | pre => rfl
  | main => rfl

/-! ### CONFIRM_WINDOW_EXPIRED (R141, R142) -/

theorem Confirm.expired_iff (k : Confirm) : k.expired = true ↔ ∃ n, k = .awaiting n ∧ 5 ≤ n := by
  cases k <;> simp [Confirm.expired]

theorem State.expireConfirm_of_expired {s : State} {c : Contactor} (expired : (s.seq.confirm c).expired = true) :
    s.expireConfirm c = s.contactorFault c (notConfirmedCode c (s.seq.drive c)) := if_pos expired

theorem State.expireConfirm_of_running {s : State} {c : Contactor} (runs : ¬(s.seq.confirm c).expired = true) :
    s.expireConfirm c = s := if_neg runs


/-- Two contactor faults of one step: the second finds the session in FAULT and raises no SESSION notice. -/
theorem State.contactorFault_both (s : State) (code code' : Nat) :
    (s.contactorFault .pre code).contactorFault .main code' =
      { s with
        seq := { s.seq with preConfirm := .failed, mainConfirm := .failed, phase := .faulted, openMode := .forced }
        session := s.session.faulted
        turn := s.turn.bar
        due := { s.due with overdraw := none, reportLost := none }
        notices :=
          (s.faultNotice (s.notices.push (s.notice .contactorFault none (some code)))).push
            (s.notice .contactorFault none (some code')) } := by
  have barred : s.turn.bar.bar = s.turn.bar := by simp [Turn.bar]
  rw [State.contactorFault_eq, State.contactorFault_eq]
  exact congrArg (fun turn : Turn => (({ s with
    seq := { s.seq with preConfirm := .failed, mainConfirm := .failed, phase := .faulted, openMode := .forced }
    session := s.session.faulted
    turn
    due := { s.due with overdraw := none, reportLost := none }
    notices :=
      (s.faultNotice (s.notices.push (s.notice .contactorFault none (some code)))).push
        (s.notice .contactorFault none (some code')) }) : State)) barred

theorem notConfirmedCode_pre (q : Seq) : notConfirmedCode .pre (q.drive .pre) = if q.preDrive then 1 else 2 := by
  rw [Seq.drive]
  cases q.preDrive with
  | true => rfl
  | false => rfl

theorem notConfirmedCode_main (q : Seq) : notConfirmedCode .main (q.drive .main) = if q.mainDrive then 5 else 6 := by
  rw [Seq.drive]
  cases q.mainDrive with
  | true => rfl
  | false => rfl

/-- Settles O34: each contactor whose count has expired takes a contactor fault, PRE first. -/
theorem confirmWindowEndsInAContactorFault : Obligations.ConfirmWindowEndsInAContactorFault := by
  intro s held due pre main toFault
  have expired : (s.seq.preConfirm.expired || s.seq.mainConfirm.expired) = true := by
    obtain ⟨n, five, awaiting | awaiting⟩ := due <;> simp [awaiting, Confirm.expired, five]
  have late : ∀ k : Confirm, ¬k.expired = true → ∀ m, k = .awaiting m → m < 5 :=
    fun k runs m awaiting => Nat.lt_of_not_le fun five => runs (k.expired_iff.2 ⟨m, awaiting, five⟩)
  rw [exec, execConfirmWindowExpired, State.act_taken _ held expired]
  by_cases preExpired : s.seq.preConfirm.expired = true
  · obtain ⟨n, preAwaits, preFive⟩ := (Confirm.expired_iff _).1 preExpired
    by_cases mainExpired : s.seq.mainConfirm.expired = true
    · obtain ⟨m, mainAwaits, mainFive⟩ := (Confirm.expired_iff _).1 mainExpired
      rw [State.expireConfirm_of_expired (c := .pre) (by exact preExpired), notConfirmedCode_pre,
        State.expireConfirm_of_expired (c := .main) (by exact mainExpired), notConfirmedCode_main,
        State.contactorFault_both]
      exact ⟨_, rfl, fun _ _ _ => rfl, fun _ _ _ => rfl, fun early => absurd (early n preAwaits) (by omega),
        fun early => absurd (early m mainAwaits) (by omega), rfl, rfl, rfl,
        fun _ _ _ early => absurd (early m mainAwaits) (by omega),
        fun _ _ _ early => absurd (early n preAwaits) (by omega), fun _ _ _ _ _ _ => rfl, rfl⟩
    · have early := late _ mainExpired
      rw [State.expireConfirm_of_expired (c := .pre) (by exact preExpired), notConfirmedCode_pre,
        State.expireConfirm_of_running (c := .main) (by exact mainExpired), State.contactorFault_eq]
      exact ⟨_, rfl, fun _ _ _ => rfl, fun k awaits five => absurd (early k awaits) (by omega),
        fun runs => absurd (runs n preAwaits) (by omega), fun _ => rfl, rfl, rfl, rfl, fun _ _ _ _ => rfl,
        fun k awaits five => absurd (early k awaits) (by omega),
        fun _ k _ _ awaits five => absurd (early k awaits) (by omega), rfl⟩
  · have mainExpired : s.seq.mainConfirm.expired = true := by simpa [preExpired] using expired
    obtain ⟨m, mainAwaits, mainFive⟩ := (Confirm.expired_iff _).1 mainExpired
    have early := late _ preExpired
    rw [State.expireConfirm_of_running (c := .pre) (by exact preExpired),
      State.expireConfirm_of_expired (c := .main) (by exact mainExpired), notConfirmedCode_main,
      State.contactorFault_eq]
    exact ⟨_, rfl, fun k awaits five => absurd (early k awaits) (by omega), fun _ _ _ => rfl, fun _ => rfl,
      fun runs => absurd (runs m mainAwaits) (by omega), rfl, rfl, rfl,
      fun k awaits five => absurd (early k awaits) (by omega), fun _ _ _ _ => rfl,
      fun k _ awaits five => absurd (early k awaits) (by omega), rfl⟩

end Sys2Proof.Machine
end

section
-- Proofs elaborated in order keep the number of threads within what the check's memory limit allows.
set_option Elab.async false
/-! The feedback inputs (R140 to R142, R146, R149): what a confirmation does to the sequencer and the session, and
what a departure does. -/

namespace Sys2Proof.Machine

/-! ### A session change that leaves the turn, the held events and a connected session's counts -/

/-- The turn and the held events are kept; a connected session stays so, with its overdraw run and what a boundary
made due. -/
def State.Calm (s t : State) : Prop :=
  t.turn = s.turn ∧ t.session.held = s.session.held
    ∧ (s.session.state = .connected →
        t.session.state = .connected ∧ t.session.overdrawRun = s.session.overdrawRun ∧ t.due = s.due)

namespace State.Calm

variable {s t u : State}

theorem refl (s : State) : s.Calm s := ⟨rfl, rfl, fun connected => ⟨connected, rfl, rfl⟩⟩

theorem trans (a : s.Calm t) (b : t.Calm u) : s.Calm u := by
  obtain ⟨turn, held, keeps⟩ := a
  obtain ⟨turn', held', keeps'⟩ := b
  refine ⟨turn'.trans turn, held'.trans held, fun connected => ?_⟩
  obtain ⟨connected', run, due⟩ := keeps connected
  obtain ⟨connected'', run', due'⟩ := keeps' connected'
  exact ⟨connected'', run'.trans run, due'.trans due⟩

end State.Calm

theorem State.setSession_calm (s : State) {n : SessionState} (c : Cause)
    (enters : n = .intent ∨ n = .fault → s.session.state = n)
    (keeps : s.session.state = .connected → n = .connected) :
    s.Calm (s.setSession n c) := by
  refine ⟨?_, ?_, fun connected => ⟨keeps connected, ?_, ?_⟩⟩
  · rw [State.setSession_turn, if_neg fun ⟨intent, other⟩ => other (intent ▸ enters (.inl intent))]
  · rw [State.setSession_session_held, if_neg fun ⟨fault, other⟩ => other (fault ▸ enters (.inr fault))]
  · rw [State.setSession_session_overdrawRun, if_pos (keeps connected)]
  · simp [keeps connected]

theorem State.contactorsOpen_calm (s : State) : s.Calm s.contactorsOpen := by
  obtain ⟨notIntent, -, notFault⟩ := s.restState_plain
  refine s.setSession_calm _ ?_ fun connected => by simp [connected]
  by_cases stopping : s.session.state = .stopping
  · rw [if_pos stopping]
    exact fun enters => absurd enters (not_or.2 ⟨notIntent, notFault⟩)
  · rw [if_neg stopping]
    exact fun _ => rfl

theorem State.contactorsOpen_of_stopping {s : State} (stopping : s.session.state = .stopping) :
    s.contactorsOpen.session.state = s.restState
      ∧ s.contactorsOpen.notices = s.notices.push (s.sessionNotice s.restState .opened) := by
  have changes : s.session.state ≠ s.restState := by
    rw [stopping, State.restState]
    split <;> decide
  rw [State.contactorsOpen, if_pos stopping, State.setSession_rest changes s.restState_plain]
  exact ⟨rfl, rfl⟩

theorem State.contactorsOpen_of_not_stopping {s : State} (other : s.session.state ≠ .stopping) :
    s.contactorsOpen.session.state = s.session.state ∧ s.contactorsOpen.notices = s.notices := by
  rw [State.contactorsOpen, if_neg other]
  exact ⟨rfl, (s.setSession_same _).1⟩

/-! ### The end of an opening (R149) -/

/-- The opening ends in this state: both contactors are AGREED in OPENING. -/
def Seq.Opened (q : Seq) : Prop := q.phase = .opening ∧ q.preConfirm = .agreed ∧ q.mainConfirm = .agreed

theorem State.openingConfirmed_of_opened {s : State} (opened : s.seq.Opened) :
    s.openingConfirmed = { s with seq := s.seq.enterIdle }.contactorsOpen := if_pos opened

theorem State.openingConfirmed_of_not {s : State} (other : ¬s.seq.Opened) : s.openingConfirmed = s := if_neg other

theorem State.openingConfirmed_confirm (s : State) (o : Contactor) :
    s.openingConfirmed.seq.confirm o = s.seq.confirm o := by
  by_cases opened : s.seq.Opened
  · rw [State.openingConfirmed_of_opened opened]
    cases o with
    | pre => rfl
    | main => rfl
  · rw [State.openingConfirmed_of_not opened]

theorem State.openingConfirmed_calm (s : State) : s.Calm s.openingConfirmed := by
  by_cases opened : s.seq.Opened
  · rw [State.openingConfirmed_of_opened opened]
    exact State.contactorsOpen_calm _
  · rw [State.openingConfirmed_of_not opened]
    exact .refl s

theorem State.openingConfirmed_acts (s : State) : s.Acts s.openingConfirmed := by
  by_cases opened : s.seq.Opened
  · rw [State.openingConfirmed_of_opened opened]
    exact State.Acts.trans (t := { s with seq := s.seq.enterIdle }) rfl (State.contactorsOpen_acts _)
  · rw [State.openingConfirmed_of_not opened]
    exact .refl s

/-! ### A confirmation (R141, R146) -/

theorem Confirm.isAwaiting_iff (k : Confirm) : k.isAwaiting = true ↔ ∃ n, k = .awaiting n := by
  cases k <;> simp [Confirm.isAwaiting]

/-- MAIN, awaited in MAIN_CLOSING with the open mode NONE, connects the session. -/
def Seq.Connects (q : Seq) (c : Contactor) : Prop :=
  c = .main ∧ q.phase = .mainClosing ∧ q.openMode = .none ∧ ∃ n, q.mainConfirm = .awaiting n

/-- A confirmation up to the end of an opening: the contactor is AGREED, and MAIN's may connect the session. -/
def State.confirmMatch (s : State) (c : Contactor) : State :=
  match c with
  | .pre => { s with seq := s.seq.setConfirm .pre .agreed }
  | .main => { s with seq := s.seq.setConfirm .main .agreed }.mainConfirmed (s.seq.confirm .main).isAwaiting

theorem State.feedbackMatches_eq (s : State) (c : Contactor) :
    s.feedbackMatches c = (s.confirmMatch c).openingConfirmed := by
  cases c with
  | pre => rfl
  | main => rfl

theorem State.mainConfirmed_of_not {s : State} {awaited : Bool}
    (other : ¬(awaited = true ∧ s.seq.phase = .mainClosing ∧ s.seq.openMode = .none)) :
    s.mainConfirmed awaited = s.setSession s.session.state .mainConfirmed := by
  simp only [State.mainConfirmed, other, if_false, false_and]
  rfl

theorem State.confirmMatch_of_connects {s : State} (connects : s.seq.Connects .main) :
    s.confirmMatch .main =
      { s.setSession (if s.session.state = .precharge then .connected else s.session.state) .mainConfirmed with
        seq := { s.seq with mainConfirm := .agreed, phase := .preRelease } } := by
  obtain ⟨-, closing, mode, awaits⟩ := connects
  have awaited : (s.seq.confirm .main).isAwaiting = true := (Confirm.isAwaiting_iff _).2 awaits
  simp only [State.confirmMatch, State.mainConfirmed, awaited, Seq.setConfirm, closing, mode, true_and, and_self,
    if_true]
  rfl

/-- A confirmation that connects nothing leaves phase, open mode, session and notices. -/
theorem State.confirmMatch_of_not {s : State} {c : Contactor} (other : ¬s.seq.Connects c) :
    (s.confirmMatch c).seq = s.seq.setConfirm c .agreed ∧ (s.confirmMatch c).session.state = s.session.state
      ∧ (s.confirmMatch c).notices = s.notices := by
  cases c with
  | pre => exact ⟨rfl, rfl, rfl⟩
  | main =>
    rw [State.confirmMatch, State.mainConfirmed_of_not]
    · exact ⟨rfl, rfl, (State.setSession_same _ _).1⟩
    · intro ⟨awaited, closing, mode⟩
      exact other ⟨rfl, closing, mode, (Confirm.isAwaiting_iff _).1 awaited⟩

theorem State.confirmMatch_rest (s : State) (c : Contactor) :
    s.Acts (s.confirmMatch c) ∧ s.Calm (s.confirmMatch c)
      ∧ ∀ o, (s.confirmMatch c).seq.confirm o = (s.seq.setConfirm c .agreed).confirm o := by
  cases c with
  | pre => exact ⟨rfl, .refl s, fun _ => rfl⟩
  | main =>
    by_cases connects : s.seq.Connects .main
    · rw [State.confirmMatch_of_connects connects]
      have enters : ∀ n, n = SessionState.intent ∨ n = .fault →
          (if s.session.state = .precharge then SessionState.connected else s.session.state) = n →
            s.session.state = n := by
        intro n special new
        split at new
        · subst new
          simp at special
        · exact new
      have calm := s.setSession_calm .mainConfirmed (fun special => enters _ special rfl)
        (n := if s.session.state = .precharge then .connected else s.session.state) fun connected => by simp [connected]
      have acts := s.setSession_acts .mainConfirmed
        (n := if s.session.state = .precharge then .connected else s.session.state) (fun new => enters _ (.inl rfl) new)
      refine ⟨acts.trans (u := { s.setSession _ _ with seq := _ }) rfl, calm, fun o => ?_⟩
      cases o with
      | pre => rfl
      | main => rfl
    · rw [State.confirmMatch, State.mainConfirmed_of_not]
      · refine ⟨State.Acts.trans (t := { s with seq := s.seq.setConfirm .main .agreed }) rfl
          (State.setSession_acts _ _ id),
          State.Calm.trans (t := { s with seq := s.seq.setConfirm .main .agreed }) (.refl s)
          (State.setSession_calm _ _ (fun _ => rfl) id), fun _ => rfl⟩
      · intro ⟨awaited, closing, mode⟩
        exact connects ⟨rfl, closing, mode, (Confirm.isAwaiting_iff _).1 awaited⟩

theorem State.feedbackMatches_confirm (s : State) (c o : Contactor) :
    (s.feedbackMatches c).seq.confirm o = (s.seq.setConfirm c .agreed).confirm o := by
  rw [State.feedbackMatches_eq, State.openingConfirmed_confirm]
  exact (s.confirmMatch_rest c).2.2 o

theorem State.feedbackMatches_acts (s : State) (c : Contactor) : s.Acts (s.feedbackMatches c) := by
  rw [State.feedbackMatches_eq]
  exact (s.confirmMatch_rest c).1.trans (State.openingConfirmed_acts _)

theorem State.feedbackMatches_calm (s : State) (c : Contactor) : s.Calm (s.feedbackMatches c) := by
  rw [State.feedbackMatches_eq]
  exact (s.confirmMatch_rest c).2.1.trans (State.openingConfirmed_calm _)

/-- MAIN's confirmation connects a session in PRECHARGE (R146). -/
theorem State.feedbackMatches_of_connects {s : State} (connects : s.seq.Connects .main) :
    let t := s.feedbackMatches .main
    t.seq.phase = .preRelease ∧ t.seq.openMode = .none
      ∧ (s.session.state = .precharge →
          t.session.state = .connected ∧ t.notices = s.notices.push (s.sessionNotice .connected .mainConfirmed))
      ∧ (s.session.state ≠ .precharge → t.session.state = s.session.state ∧ t.notices = s.notices) := by
  rw [State.feedbackMatches_eq, State.openingConfirmed_of_not, State.confirmMatch_of_connects connects]
  · refine ⟨rfl, connects.2.2.1, fun precharge => ?_, fun other => ?_⟩
    · simp [precharge, State.sessionNotice, sessionNoticeValue]
    · simp [other]
  · rw [State.confirmMatch_of_connects connects]
    exact fun opened => absurd opened.1 (by simp)

/-- A confirmation that ends the opening lets a session leave STOPPING (R149, R159). -/
theorem State.feedbackMatches_of_opened {s : State} {c : Contactor} (opened : (s.seq.setConfirm c .agreed).Opened) :
    let t := s.feedbackMatches c
    t.seq.phase = .idle ∧ t.seq.openMode = .none
      ∧ (s.session.state = .stopping →
          t.session.state = s.restState ∧ t.notices = s.notices.push (s.sessionNotice s.restState .opened))
      ∧ (s.session.state ≠ .stopping → t.session.state = s.session.state ∧ t.notices = s.notices) := by
  have opening : s.seq.phase = .opening := by simpa using opened.1
  obtain ⟨seq, state, notices⟩ := State.confirmMatch_of_not (c := c)
    fun connects : s.seq.Connects c => absurd (opening.symm.trans connects.2.1) (by decide)
  have rest := (s.confirmMatch_rest c).1
  have docked : (s.confirmMatch c).restState = s.restState := by
    unfold State.restState State.docked
    rw [rest]
    rfl
  have stamp : (s.confirmMatch c).timer = s.timer := by
    rw [rest]
    rfl
  rw [State.feedbackMatches_eq, State.openingConfirmed_of_opened (by rwa [seq])]
  refine ⟨rfl, rfl, fun stopping => ?_, fun other => ?_⟩
  · obtain ⟨state', notices'⟩ := State.contactorsOpen_of_stopping
      (s := { s.confirmMatch c with seq := (s.confirmMatch c).seq.enterIdle }) (state.trans stopping)
    refine ⟨state'.trans docked, notices'.trans ?_⟩
    change (s.confirmMatch c).notices.push ((s.confirmMatch c).sessionNotice (s.confirmMatch c).restState .opened) = _
    rw [notices, docked, State.sessionNotice, stamp]
  · obtain ⟨state', notices'⟩ := State.contactorsOpen_of_not_stopping
      (s := { s.confirmMatch c with seq := (s.confirmMatch c).seq.enterIdle }) (state.trans_ne other)
    exact ⟨state'.trans state, notices'.trans notices⟩

/-- Any other confirmation moves the confirm state alone. -/
theorem State.feedbackMatches_of_neither {s : State} {c : Contactor} (connects : ¬s.seq.Connects c)
    (opened : ¬(s.seq.setConfirm c .agreed).Opened) :
    let t := s.feedbackMatches c
    t.seq.phase = s.seq.phase ∧ t.seq.openMode = s.seq.openMode ∧ t.session.state = s.session.state
      ∧ t.notices = s.notices := by
  obtain ⟨seq, state, notices⟩ := State.confirmMatch_of_not connects
  rw [State.feedbackMatches_eq, State.openingConfirmed_of_not (by rwa [seq])]
  exact ⟨by simp [seq], by simp [seq], state, notices⟩


/-! ### A departure (R142), and the command -/

theorem State.feedbackDeparts_of_agreed {s : State} {c : Contactor} (agreed : s.seq.confirm c = .agreed) :
    s.feedbackDeparts c = s.contactorFault c (movedAwayCode c (s.seq.drive c)) := if_pos agreed

theorem State.feedbackDeparts_of_not {s : State} {c : Contactor} (other : s.seq.confirm c ≠ .agreed) :
    s.feedbackDeparts c = s := if_neg other

theorem Seq.setConfirm_confirm_ne (q : Seq) {c o : Contactor} (v : Confirm) (other : o ≠ c) :
    (q.setConfirm c v).confirm o = q.confirm o := by
  cases c <;> cases o <;> simp_all [Seq.setConfirm, Seq.confirm]

/-- The qualified feedback changes; whatever the change does to the session and the sequencer, the rest is kept. -/
theorem State.changeFeedback_rest {s t : State} (c : Contactor) (acts : (s.changeFeedback c).Acts t) :
    t.feedback c = (!s.feedback c) ∧ t.feedbackRun c = 0
      ∧ (∀ o, o ≠ c → t.feedback o = s.feedback o ∧ t.feedbackRun o = s.feedbackRun o)
      ∧ t = { s.withActs t with qual := { s.qual with preFb := t.qual.preFb, mainFb := t.qual.mainFb } } := by
  have qual : t.qual = (s.changeFeedback c).qual := by
    rw [acts]
    rfl
  cases c with
  | pre =>
    refine ⟨by rw [State.feedback, qual]; rfl, by rw [State.feedbackRun, qual]; rfl, fun o other => ?_, ?_⟩
    · cases o with
      | pre => exact absurd rfl other
      | main => exact ⟨by rw [State.feedback, qual]; rfl, by rw [State.feedbackRun, qual]; rfl⟩
    · rw [qual]
      exact acts
  | main =>
    refine ⟨by rw [State.feedback, qual]; rfl, by rw [State.feedbackRun, qual]; rfl, fun o other => ?_, ?_⟩
    · cases o with
      | pre => exact ⟨by rw [State.feedback, qual]; rfl, by rw [State.feedbackRun, qual]; rfl⟩
      | main => exact absurd rfl other
    · rw [qual]
      exact acts

@[simp] theorem State.changeFeedback_dock (s : State) (c : Contactor) :
    (s.changeFeedback c).qual.dock = s.qual.dock := by
  cases c with
  | pre => rfl
  | main => rfl

/-- The qualified feedback apart, the change leaves the state as it was. -/
theorem State.changeFeedback_eq (s : State) (c : Contactor) :
    s.changeFeedback c = { s with qual := (s.changeFeedback c).qual } := by
  cases c with
  | pre => rfl
  | main => rfl

/-- The command before SETUP, for a feedback that matches the drive, and for one that departs from it. -/
theorem exec_qualifiedFeedbackChange {s : State} {c : Contactor} (held : s.resetHeld = false)
    (run : 8 ≤ s.feedbackRun c) :
    exec (.qualifiedFeedbackChange c) s =
      .next
        (if s.configured = false then s.changeFeedback c
        else if (s.changeFeedback c).feedback c = (s.changeFeedback c).seq.drive c then
          (s.changeFeedback c).feedbackMatches c
        else (s.changeFeedback c).feedbackDeparts c) := by
  have due : s.feedbackChangeDue c = true := decide_eq_true run
  rw [exec, execQualifiedFeedbackChange, State.act_taken _ held due]
  simp only [Bool.not_eq_true']

/-- Settles O7: before SETUP nothing follows; after it the new level matches the drive or departs from it. -/
theorem qualifiedFeedbackConfirmsOrFaults : Obligations.QualifiedFeedbackConfirmsOrFaults := by
  intro c s held run
  rw [exec_qualifiedFeedbackChange held run]
  refine ⟨_, rfl, ?_⟩
  have rest := fun t => State.changeFeedback_rest (s := s) (t := t) c
  have kept := s.changeFeedback_eq c
  have dock := s.changeFeedback_dock c
  generalize (s.changeFeedback c).qual = q at kept dock
  rw [kept] at rest ⊢
  obtain ⟨level, -⟩ := rest _ (.refl _)
  cases configured : s.configured with
  | false =>
    obtain ⟨fb, fbRun, others, frame⟩ := rest _ (.refl _)
    rw [if_pos rfl]
    refine ⟨fb, fbRun, fun o other => ?_, fun _ => rfl, nofun, nofun, nofun, frame⟩
    obtain ⟨fbo, runo⟩ := others o other
    exact ⟨fbo, runo, rfl⟩
  | true =>
    rw [if_neg nofun]
    by_cases agrees : ({ s with qual := q } : State).feedback c = s.seq.drive c
    · rw [if_pos (by exact agrees)]
      obtain ⟨fb, fbRun, others, frame⟩ := rest _ (State.feedbackMatches_acts _ c)
      have confirm := State.feedbackMatches_confirm { s with qual := q } c
      obtain ⟨turn, heldEvents, keeps⟩ := State.feedbackMatches_calm { s with qual := q } c
      refine ⟨fb, fbRun, fun o other => ?_, nofun, fun _ _ => ?_, fun _ departs => ?_, fun _ departs => ?_, frame⟩
      · obtain ⟨fbo, runo⟩ := others o other
        exact ⟨fbo, runo, (confirm o).trans (Seq.setConfirm_confirm_ne _ _ other)⟩
      · have opens : s.seq.phase = .opening
              ∧ (({ s with qual := q } : State).feedbackMatches c).seq.preConfirm = .agreed
              ∧ (({ s with qual := q } : State).feedbackMatches c).seq.mainConfirm = .agreed ↔
            (s.seq.setConfirm c .agreed).Opened := by
          rw [Seq.Opened, Seq.setConfirm_phase]
          exact Iff.of_eq (congrArg₂ (fun a b => s.seq.phase = .opening ∧ a = Confirm.agreed ∧ b = Confirm.agreed)
            (confirm .pre) (confirm .main))
        refine ⟨(confirm c).trans (by simp), turn, heldEvents, fun connected => (keeps connected).2, ?_, ?_, ?_⟩
        · rintro ⟨rfl, connects⟩
          exact State.feedbackMatches_of_connects (s := { s with qual := q }) ⟨rfl, connects⟩
        · intro opened
          obtain ⟨phase, mode, stopping, other⟩ :=
            State.feedbackMatches_of_opened (s := { s with qual := q }) (opens.1 opened)
          refine ⟨phase, mode, fun stops => ?_, other⟩
          obtain ⟨state, notices⟩ := stopping stops
          rw [notices, state, State.restState, State.docked, dock]
          exact ⟨rfl, rfl⟩
        · intro connects opened
          exact State.feedbackMatches_of_neither (s := { s with qual := q }) connects fun o => opened (opens.2 o)
      · exact absurd (fb.trans (level.symm.trans agrees)) departs
      · exact absurd (fb.trans (level.symm.trans agrees)) departs
    · rw [if_neg (by exact agrees)]
      by_cases agreed : s.seq.confirm c = .agreed
      · rw [State.feedbackDeparts_of_agreed (by exact agreed)]
        obtain ⟨fb, fbRun, others, frame⟩ := rest _ (State.contactorFault_acts _ c _)
        refine ⟨fb, fbRun, fun o other => ?_, nofun, fun _ same => ?_, fun _ _ other => absurd agreed other,
          fun _ _ _ => ?_, frame⟩
        · obtain ⟨fbo, runo⟩ := others o other
          rw [State.contactorFault_eq]
          exact ⟨fbo, runo, Seq.setConfirm_confirm_ne _ _ other⟩
        · exact absurd (level.trans (fb.symm.trans same)) agrees
        · rw [State.contactorFault_eq]
          exact ⟨Seq.setConfirm_confirm _ _ _, rfl, rfl, rfl, rfl, rfl, rfl, rfl, rfl, rfl⟩
      · rw [State.feedbackDeparts_of_not (by exact agreed)]
        obtain ⟨fb, fbRun, others, frame⟩ := rest _ (.refl _)
        refine ⟨fb, fbRun, fun o other => ?_, nofun, fun _ same => absurd same agrees, fun _ _ _ => rfl,
          fun _ _ agree => absurd agree agreed, frame⟩
        obtain ⟨fbo, runo⟩ := others o other
        exact ⟨fbo, runo, rfl⟩

end Sys2Proof.Machine
end

section
-- Proofs elaborated in order keep the number of threads within what the check's memory limit allows.
set_option Elab.async false
/-! The dock input at the session (R157, R158, R161) and SETUP (R39, R141, R157, R178). -/

namespace Sys2Proof.Machine

/-! ### The dock input -/

/-- A session state that does not change still ends what only CONNECTED keeps. -/
theorem State.setSession_self (s : State) (c : Cause) :
    s.setSession s.session.state c =
      { s with
        session :=
          { s.session with
            overdrawRun := if s.session.state = .connected then s.session.overdrawRun else 0 }
        due :=
          { s.due with
            overdraw := if s.session.state = .connected then s.due.overdraw else none
            reportLost := if s.session.state = .connected then s.due.reportLost else none } } := by
  simp [State.setSession]

/-- FORCED is taken in any phase but IDLE (R147). -/
theorem Seq.requestOpen_forced_of_busy {q : Seq} (busy : q.phase ≠ .idle) :
    (q.requestOpen .forced).openMode = .forced := by
  simp [Seq.requestOpen, busy]

/-- No open mode is kept while the phase is IDLE and no drive is on (R147). -/
theorem Seq.requestOpen_of_rest {q : Seq} (m : OpenMode) (idle : q.phase = .idle) (pre : q.preDrive = false)
    (main : q.mainDrive = false) : q.requestOpen m = q := by
  rw [Seq.requestOpen, if_pos ⟨idle, pre, main⟩]

theorem dockLossTarget_plain {st : SessionState} (changes : dockLossTarget st ≠ st) :
    dockLossTarget st ≠ .intent ∧ dockLossTarget st ≠ .connected ∧ dockLossTarget st ≠ .fault := by
  obtain ⟨-, target⟩ | ⟨-, target⟩ | ⟨-, target⟩ := dockLossTarget_cases st
  · rw [target]
    decide
  · rw [target]
    decide
  · exact absurd target changes

/-- The sequencer's part of a dock loss (R147). -/
def State.dockLossSeq (s : State) : Seq :=
  if dockLossTarget s.session.state = .stopping then s.seq.requestOpen .forced else s.seq

/-- The notice of a dock loss (R161). -/
def State.dockLostNotice (s : State) : Notice := s.notice .dockLost none (some s.dockLostValue)

theorem State.takeDockLoss_of_changes {s : State} (changes : dockLossTarget s.session.state ≠ s.session.state) :
    s.takeDockLoss =
      { s with
        session := { s.session with state := dockLossTarget s.session.state, overdrawRun := 0 }
        seq := s.dockLossSeq
        due := { s.due with overdraw := none, reportLost := none }
        notices :=
          (s.notices.push s.dockLostNotice).push (s.sessionNotice (dockLossTarget s.session.state) .dockLost)
        free := s.free + 1 } := by
  rw [State.takeDockLoss, State.setSession_rest (by exact changes.symm) (dockLossTarget_plain changes)]
  rfl

theorem State.takeDockLoss_of_stays {s : State} (stays : dockLossTarget s.session.state = s.session.state) :
    s.takeDockLoss =
      { s with
        session :=
          { s.session with
            overdrawRun := if s.session.state = .connected then s.session.overdrawRun else 0 }
        seq := s.dockLossSeq
        due :=
          { s.due with
            overdraw := if s.session.state = .connected then s.due.overdraw else none
            reportLost := if s.session.state = .connected then s.due.reportLost else none }
        notices := s.notices.push s.dockLostNotice
        free := s.free + 1 } := by
  have self := State.setSession_self (s.raise .dockLost none (some s.dockLostValue)) .dockLost
  rw [State.raise_session, ← stays] at self
  rw [State.takeDockLoss, self]
  simp only [stays, State.dockLossSeq]
  rfl


/-- What a dock loss that is taken at once does to the session, the sequencer and the notices. -/
theorem State.takeDockLoss_spec (s : State) :
    let t := s.takeDockLoss
    t.session.held = s.session.held ∧ t.seq = s.dockLossSeq
      ∧ (t.session.state ≠ s.session.state →
          t.session.overdrawRun = 0 ∧ t.due.overdraw = none ∧ t.due.reportLost = none)
      ∧ t.notices =
        (if t.session.state = s.session.state then s.notices.push s.dockLostNotice
        else (s.notices.push s.dockLostNotice).push (s.sessionNotice t.session.state .dockLost))
      ∧ t =
        { s with
          session :=
            { s.session with
              state := t.session.state, overdrawRun := t.session.overdrawRun, held := t.session.held }
          seq := { s.seq with openMode := t.seq.openMode }
          due := { s.due with overdraw := t.due.overdraw, reportLost := t.due.reportLost }
          notices := t.notices
          free := t.free } := by
  obtain ⟨mode, asked⟩ : ∃ mode, s.dockLossSeq = { s.seq with openMode := mode } := by
    unfold State.dockLossSeq
    split
    · exact ⟨_, rfl⟩
    · exact ⟨_, rfl⟩
  by_cases stays : dockLossTarget s.session.state = s.session.state
  · rw [State.takeDockLoss_of_stays stays, asked]
    exact ⟨rfl, rfl, fun other => absurd rfl other, (if_pos rfl).symm, rfl⟩
  · rw [State.takeDockLoss_of_changes stays, asked]
    exact ⟨rfl, rfl, fun _ => ⟨rfl, rfl, rfl⟩, (if_neg stays).symm, rfl⟩

theorem State.dockLostValue_of_some {s : State} {r : Record} (record : s.session.record = some r) :
    s.dockLostValue = r.delivered := by
  rw [State.dockLostValue, record]

theorem State.dockLostValue_of_none {s : State} (record : s.session.record = none) : s.dockLostValue < 65536 := by
  rw [State.dockLostValue, record]
  exact BitVec.isLt _

/-- An assertion docks a VACANT session once SETUP has been accepted, and changes no other state (R157). -/
theorem State.assertedTarget_cases (s : State) :
    (s.configured = true ∧ s.session.state = .vacant ∧ s.assertedTarget = .docked)
      ∨ ((s.configured = false ∨ s.session.state ≠ .vacant) ∧ s.assertedTarget = s.session.state) := by
  unfold State.assertedTarget
  by_cases docks : s.configured = true ∧ s.session.state = .vacant
  · exact .inl ⟨docks.1, docks.2, if_pos docks⟩
  · refine .inr ⟨?_, if_neg docks⟩
    by_cases configured : s.configured = true
    · exact .inr fun vacant => docks ⟨configured, vacant⟩
    · exact .inl (by simpa using configured)

theorem exec_qualifiedDockAssertion {s : State} (held : s.resetHeld = false) (run : 16 ≤ s.qual.dock.run)
    (level : s.qual.dock.level = false) :
    exec .qualifiedDockAssertion s = .next (s.changeDock.setSession s.assertedTarget .dockAsserted) := by
  rw [exec, execQualifiedDockAssertion]
  exact State.act_taken _ held (by simp [State.dockChangeDue, dockSamples, run, State.docked, level])

theorem exec_dockLoss {s : State} (held : s.resetHeld = false) (run : 16 ≤ s.qual.dock.run)
    (level : s.qual.dock.level = true) :
    exec .dockLoss s =
      .next
        (if s.configured = false then s.changeDock
        else if s.holdsEvents then s.changeDock.holdEvent .dockLoss
        else s.changeDock.takeDockLoss) := by
  have due : (s.dockChangeDue && s.docked) = true := by
    simp [State.dockChangeDue, dockSamples, run, State.docked, level]
  rw [exec, execDockLoss, State.act_taken _ held due]
  simp only [Bool.not_eq_true']

/-- Settles O8: an assertion docks a VACANT session; a loss is held, or taken by the session's state. -/
theorem dockInputActsOnTheSession : Obligations.DockInputActsOnTheSession := by
  refine ⟨fun s held run level => ?_, fun s held run level => ?_⟩
  · rw [exec_qualifiedDockAssertion held run level]
    have change : s.qual.dock.change = { level := true, run := 0 } := by rw [QInput.change, level]; rfl
    obtain ⟨configured, vacant, target⟩ | ⟨other, target⟩ := s.assertedTarget_cases
    · rw [target, State.setSession_rest (by exact vacant.trans_ne (by decide)) (by decide)]
      refine ⟨_, rfl, change, fun _ _ => ⟨rfl, rfl⟩, fun other => ?_, rfl⟩
      exact absurd other (by simp [configured, vacant])
    · have self := State.setSession_self s.changeDock .dockAsserted
      rw [target]
      refine ⟨_, congrArg _ self, change, fun configured vacant => ?_, fun _ => ⟨rfl, rfl⟩, rfl⟩
      exact absurd other (by simp [configured, vacant])
  · rw [exec_dockLoss held run level]
    have change : s.changeDock.qual = { s.qual with dock := { level := false, run := 0 } } := by
      rw [State.changeDock, QInput.change, level]
      rfl
    cases configured : s.configured with
    | false => exact ⟨_, rfl, change, fun _ => rfl, nofun, nofun, rfl⟩
    | true =>
      by_cases holds : s.holdsEvents = true
      · obtain ⟨deciding, candidate⟩ := s.holdsEvents_iff.1 holds
        rw [if_neg nofun, if_pos holds]
        refine ⟨_, rfl, change, nofun, fun _ _ _ => rfl, fun _ other => ?_, rfl⟩
        obtain other | other := other
        · exact absurd (deciding.symm.trans other) nofun
        · exact absurd candidate (by simp [other])
      · rw [if_neg nofun, if_neg holds]
        obtain ⟨heldEvents, seq, ends, notices, frame⟩ := s.changeDock.takeDockLoss_spec
        refine ⟨_, rfl, (State.takeDockLoss_qual _).trans change, nofun, fun _ deciding candidate => ?_,
          fun _ _ => ?_, frame⟩
        · exact absurd (s.holdsEvents_iff.2 ⟨deciding, candidate⟩) holds
        · refine ⟨?_, ?_, ?_, ?_, heldEvents, ends, ?_, ?_⟩
          · change dockLossTarget s.session.state = _
            cases s.session.state <;> rfl
          · intro stops busy
            rw [seq, State.dockLossSeq, if_pos (by exact stops), Seq.requestOpen_forced_of_busy (by exact busy)]
          · intro other
            rw [seq, State.dockLossSeq, if_neg (by exact other)]
            rfl
          · intro idle pre main
            rw [seq, State.dockLossSeq, Seq.requestOpen_of_rest _ (by exact idle) (by exact pre) (by exact main),
              ite_self]
            rfl
          · intro r record
            rw [notices, State.dockLostNotice, State.dockLostValue_of_some (by exact record)]
            rfl
          · intro record
            exact ⟨s.changeDock.dockLostValue, State.dockLostValue_of_none (by exact record), notices⟩

end Sys2Proof.Machine
end

section
-- Proofs elaborated in order keep the number of threads within what the check's memory limit allows.
set_option Elab.async false
/-! SETUP (R38, R39, R141, R157, R178): the clamps and their mask, the confirm states, and the docking. -/

namespace Sys2Proof.Machine

/-! ### The clamp mask -/

/-- The number whose bits below `n` are given flags. -/
def maskOf (b : Nat → Bool) : Nat → Nat
  | 0 => 0
  | n + 1 => maskOf b n + flagBit n (b n)

theorem maskOf_lt (b : Nat → Bool) (n : Nat) : maskOf b n < 2 ^ n := by
  induction n with
  | zero => exact Nat.one_pos
  | succ n ih => exact add_flagBit_lt ih _

theorem testBit_maskOf (b : Nat → Bool) (n i : Nat) : (maskOf b n).testBit i = (decide (i < n) && b i) := by
  induction n with
  | zero => simp [maskOf]
  | succ n ih =>
    rw [maskOf, testBit_add_flagBit (maskOf_lt b n), ih]
    by_cases last : i = n
    · simp [last]
    · rw [if_neg last, show decide (i < n + 1) = decide (i < n) by rw [decide_eq_decide]; omega]

theorem maskOf_eq_zero_iff (b : Nat → Bool) (n : Nat) : maskOf b n = 0 ↔ ∀ i < n, b i = false := by
  constructor
  · intro zero i below
    have bit := testBit_maskOf b n i
    rw [zero, Nat.zero_testBit, decide_eq_true below, Bool.true_and] at bit
    exact bit.symm
  · intro none
    refine Nat.eq_of_testBit_eq fun i => ?_
    rw [testBit_maskOf, Nat.zero_testBit]
    by_cases below : i < n
    · simp [none i below]
    · simp [below]

/-- Whether the field of a mask bit differs (11, section 11.2). -/
def Setup.moved (asked set : Setup) : Nat → Bool
  | 0 => asked.branchLimit != set.branchLimit
  | 1 => asked.feederLimit != set.feederLimit
  | 2 => asked.curtailLimit != set.curtailLimit
  | 3 => asked.chargerRating != set.chargerRating
  | 4 => asked.rampStep != set.rampStep
  | 5 => asked.prechargeRounds != set.prechargeRounds
  | 6 => asked.openThreshold != set.openThreshold
  | 7 => asked.adoptionReserve != set.adoptionReserve
  | _ => asked.curtailSamples != set.curtailSamples

theorem setupClampMask_eq (asked set : Setup) : setupClampMask asked set = maskOf (asked.moved set) 9 := by
  simp [maskOf, setupClampMask, Setup.moved]

theorem setupClampMask_testBit (asked set : Setup) {i : Nat} (below : i < 9) :
    (setupClampMask asked set).testBit i = asked.moved set i := by
  rw [setupClampMask_eq, testBit_maskOf, decide_eq_true below, Bool.true_and]

theorem setupClampMask_eq_zero_iff (asked : Setup) :
    setupClampMask asked (clampSetup asked) = 0 ↔ asked = clampSetup asked := by
  rw [setupClampMask_eq, maskOf_eq_zero_iff]
  constructor
  · intro same
    have field : ∀ i < 9, asked.moved (clampSetup asked) i = false := same
    simp only [Nat.forall_lt_succ_right, Nat.not_lt_zero, false_imp_iff, implies_true, true_and, Setup.moved,
      bne_eq_false_iff_eq] at field
    obtain ⟨⟨⟨⟨⟨⟨⟨⟨h0, h1⟩, h2⟩, h3⟩, h4⟩, h5⟩, h6⟩, h7⟩, h8⟩ := field
    cases asked
    exact (Setup.mk.injEq ..).mpr ⟨rfl, h0, h1, h2, h3, h4, h5, h6, h7, h8⟩
  · intro same i _
    rw [← same]
    unfold Setup.moved
    split <;> simp

theorem moved_clampTo_iff {lo hi : Nat} (range : lo ≤ hi) (n : Nat) :
    (n != clampTo lo hi n) = true ↔ n < lo ∨ hi < n := by
  rw [bne_iff_ne, clampTo]
  omega

/-- The configuration that a SETUP puts in force (R178). -/
theorem clampSetup_setupOfParams (ps : List Byte) :
    clampSetup (setupOfParams ps) =
      { branch := param1 ps 0, branchLimit := min 4000 (param2 ps 1),
        feederLimit := min 16000 (param2 ps 3), curtailLimit := min 16000 (param2 ps 5),
        chargerRating := max 50 (min 1000 (param2 ps 7)), rampStep := max 1 (min 50 (param1 ps 9)),
        prechargeRounds := max 5 (min 50 (param1 ps 10)),
        openThreshold := max 1 (min 20 (param1 ps 11)),
        adoptionReserve := max 10 (min 1000 (param2 ps 12)),
        curtailSamples := max 3 (min 15 (param1 ps 14)) } := by
  simp [clampSetup, setupOfParams, clampTo]

/-! ### The docking (R157) -/

/-- SETUP docks a VACANT session where the dock level is asserted. -/
abbrev State.Docks (s : State) : Prop := s.docked = true ∧ s.session.state = .vacant

/-- The session state after the docking. -/
def State.dockedState (s : State) : SessionState := if s.Docks then .docked else s.session.state

/-- The notices after the docking. -/
def State.dockingNotices (s : State) : NoticeQueue :=
  if s.Docks then s.notices.push (s.sessionNotice .docked .setup) else s.notices

theorem State.settleDock_eq (s : State) :
    s.settleDock =
      { s with
        session :=
          { s.session with
            state := s.dockedState
            overdrawRun := if s.session.state = .connected then s.session.overdrawRun else 0 }
        due :=
          { s.due with
            overdraw := if s.session.state = .connected then s.due.overdraw else none
            reportLost := if s.session.state = .connected then s.due.reportLost else none }
        notices := s.dockingNotices } := by
  unfold State.settleDock State.dockedState State.dockingNotices
  by_cases docks : s.docked = true ∧ s.session.state = .vacant
  · have other : s.session.state ≠ .connected := docks.2.trans_ne (by decide)
    simp only [if_pos docks, if_neg other]
    exact State.setSession_rest (docks.2.trans_ne (by decide)) (by decide)
  · simp only [if_neg docks]
    exact s.setSession_self .setup

/-- A session in FAULT is not docked. -/
theorem State.settleDock_of_fault {s : State} (fault : s.session.state = .fault) :
    s.settleDock =
      { s with
        session := { s.session with overdrawRun := 0 }
        due := { s.due with overdraw := none, reportLost := none } } := by
  have other : ¬s.Docks := fun docks => absurd (docks.2.symm.trans fault) (by decide)
  rw [State.settleDock_eq, State.dockedState, State.dockingNotices, if_neg other, if_neg other]
  simp [fault]

theorem State.dockedState_eq_fault_iff (s : State) : s.dockedState = .fault ↔ s.session.state = .fault := by
  unfold State.dockedState
  split
  next docks => simp [docks.2]
  · rfl

/-! ### The confirm states (R141, R142) -/

/-- The faults of the closed feedbacks, PRE's first (R142). -/
def State.settleNotices (s : State) (q : NoticeQueue) : NoticeQueue :=
  if s.qual.preFb.level = true ∧ s.qual.mainFb.level = true then
    (s.faultNotice (q.push (s.notice .contactorFault none (some 4)))).push (s.notice .contactorFault none (some 8))
  else if s.qual.preFb.level = true then s.faultNotice (q.push (s.notice .contactorFault none (some 4)))
  else s.faultNotice (q.push (s.notice .contactorFault none (some 8)))

/-- The confirm state of a contactor once SETUP is accepted. -/
def settledConfirm (closed : Bool) : Confirm := if closed then .failed else .agreed

theorem State.settleConfirm_of_closed {s : State} {c : Contactor} (closed : s.feedback c = true) :
    s.settleConfirm c = s.contactorFault c (movedAwayCode c false) := if_pos closed

theorem State.settleConfirm_of_open {s : State} {c : Contactor} (opened : s.feedback c = false) :
    s.settleConfirm c = { s with seq := s.seq.setConfirm c .agreed } := if_neg (by simp [opened])

theorem State.settleConfirms_of_open {s : State}
    (pre : s.qual.preFb.level = false) (main : s.qual.mainFb.level = false) :
    s.settleConfirms = { s with seq := { s.seq with preConfirm := .agreed, mainConfirm := .agreed } } := by
  rw [State.settleConfirms, State.settleConfirm_of_open (c := .pre) pre,
    State.settleConfirm_of_open (c := .main) (by exact main)]
  rfl

theorem State.settleConfirms_of_closed {s : State} (closed : s.qual.preFb.level = true ∨ s.qual.mainFb.level = true) :
    s.settleConfirms =
      { s with
        seq :=
          { s.seq with
            preConfirm := settledConfirm s.qual.preFb.level, mainConfirm := settledConfirm s.qual.mainFb.level,
            phase := .faulted, openMode := .forced }
        session := s.session.faulted
        turn := s.turn.bar
        due := { s.due with overdraw := none, reportLost := none }
        notices := s.settleNotices s.notices } := by
  cases pre : s.qual.preFb.level with
  | true =>
    rw [State.settleConfirms, State.settleConfirm_of_closed (c := .pre) pre]
    cases main : s.qual.mainFb.level with
    | true =>
      rw [State.settleConfirm_of_closed (c := .main) (by exact main), State.contactorFault_both, State.settleNotices,
        if_pos ⟨pre, main⟩]
      rfl
    | false =>
      rw [State.settleConfirm_of_open (c := .main) (by exact main), State.contactorFault_eq, State.settleNotices,
        if_neg (by simp [main]), if_pos pre]
      rfl
  | false =>
    have main : s.qual.mainFb.level = true := by simpa [pre] using closed
    rw [State.settleConfirms, State.settleConfirm_of_open (c := .pre) pre,
      State.settleConfirm_of_closed (c := .main) (by exact main), State.contactorFault_eq, State.settleNotices,
      if_neg (by simp [pre]), if_neg (by simp [pre]), main]
    rfl

/-! ### Both, in either order (log entry 9) -/

theorem State.settle_cases (s : State) :
    s.settle = ({ s with free := s.free + 1 } : State).settleDock.settleConfirms
      ∨ s.settle = ({ s with free := s.free + 1 } : State).settleConfirms.settleDock := by
  unfold State.settle
  split
  · exact .inl rfl
  · exact .inr rfl

theorem State.settle_of_open {s : State} (pre : s.qual.preFb.level = false) (main : s.qual.mainFb.level = false) :
    s.settle =
      { s with
        seq := { s.seq with preConfirm := .agreed, mainConfirm := .agreed }
        session :=
          { s.session with
            state := s.dockedState
            overdrawRun := if s.session.state = .connected then s.session.overdrawRun else 0 }
        due :=
          { s.due with
            overdraw := if s.session.state = .connected then s.due.overdraw else none
            reportLost := if s.session.state = .connected then s.due.reportLost else none }
        notices := s.dockingNotices
        free := s.free + 1 } := by
  obtain settled | settled := s.settle_cases
  · rw [settled, State.settleDock_eq, State.settleConfirms_of_open (by exact pre) (by exact main)]
    rfl
  · rw [settled, State.settleConfirms_of_open (by exact pre) (by exact main), State.settleDock_eq]
    rfl

theorem State.settle_of_closed {s : State} (closed : s.qual.preFb.level = true ∨ s.qual.mainFb.level = true) :
    ∃ notices, (notices = s.settleNotices s.notices ∨ notices = s.settleNotices s.dockingNotices) ∧
      s.settle =
        { s with
          seq :=
            { s.seq with
              preConfirm := settledConfirm s.qual.preFb.level, mainConfirm := settledConfirm s.qual.mainFb.level,
              phase := .faulted, openMode := .forced }
          session := s.session.faulted
          turn := s.turn.bar
          due := { s.due with overdraw := none, reportLost := none }
          notices
          free := s.free + 1 } := by
  obtain settled | settled := s.settle_cases
  · refine ⟨_, .inr rfl, ?_⟩
    rw [settled, State.settleDock_eq, State.settleConfirms_of_closed (by exact closed)]
    simp only [Session.faulted, State.settleNotices, State.faultNotice, State.dockedState_eq_fault_iff]
    rfl
  · refine ⟨_, .inl rfl, ?_⟩
    rw [settled, State.settleConfirms_of_closed (by exact closed), State.settleDock_of_fault rfl]
    rfl


/-! ### The command -/

theorem State.takeSetup_eq (s : State) (ps : List Byte) (pad instant : Nat) :
    s.takeSetup ps pad instant =
      (s.configure (clampSetup (setupOfParams ps)) pad instant).settle.respond
        (clampedResponse (setupClampMask (setupOfParams ps) (clampSetup (setupOfParams ps)))
          (configBytes (clampSetup (setupOfParams ps)))) := rfl

theorem configBytes_length (c : Setup) : (configBytes c).length = 15 := rfl

/-- The bits of the clamp mask of a SETUP (11, section 11.2). -/
theorem setupMask_spec (ps : List Byte) :
    let mask := setupClampMask (setupOfParams ps) (clampSetup (setupOfParams ps))
    (mask = 0 ↔ setupOfParams ps = clampSetup (setupOfParams ps)) ∧ mask < 512
      ∧ (mask.testBit 0 = true ↔ 4000 < param2 ps 1)
      ∧ (mask.testBit 1 = true ↔ 16000 < param2 ps 3)
      ∧ (mask.testBit 2 = true ↔ 16000 < param2 ps 5)
      ∧ (mask.testBit 3 = true ↔ param2 ps 7 < 50 ∨ 1000 < param2 ps 7)
      ∧ (mask.testBit 4 = true ↔ param1 ps 9 < 1 ∨ 50 < param1 ps 9)
      ∧ (mask.testBit 5 = true ↔ param1 ps 10 < 5 ∨ 50 < param1 ps 10)
      ∧ (mask.testBit 6 = true ↔ param1 ps 11 < 1 ∨ 20 < param1 ps 11)
      ∧ (mask.testBit 7 = true ↔ param2 ps 12 < 10 ∨ 1000 < param2 ps 12)
      ∧ (mask.testBit 8 = true ↔ param1 ps 14 < 3 ∨ 15 < param1 ps 14) := by
  have bit {i : Nat} (below : i < 9) := setupClampMask_testBit (setupOfParams ps) (clampSetup (setupOfParams ps)) below
  have above {hi : Nat} (n : Nat) : (n != clampTo 0 hi n) = true ↔ hi < n := by
    rw [moved_clampTo_iff (Nat.zero_le hi)]
    simp
  refine ⟨setupClampMask_eq_zero_iff _, (setupClampMask_eq _ _).trans_lt (maskOf_lt _ 9), ?_, ?_, ?_, ?_, ?_, ?_, ?_,
    ?_, ?_⟩
  · rw [bit (by decide)]
    exact above _
  · rw [bit (by decide)]
    exact above _
  · rw [bit (by decide)]
    exact above _
  · rw [bit (by decide)]
    exact moved_clampTo_iff (by decide) _
  · rw [bit (by decide)]
    exact moved_clampTo_iff (by decide) _
  · rw [bit (by decide)]
    exact moved_clampTo_iff (by decide) _
  · rw [bit (by decide)]
    exact moved_clampTo_iff (by decide) _
  · rw [bit (by decide)]
    exact moved_clampTo_iff (by decide) _
  · rw [bit (by decide)]
    exact moved_clampTo_iff (by decide) _

/-- Settles O43: with both feedbacks open the session may dock; a closed one faults before or after the docking. -/
theorem setupConfiguresTheStation : Obligations.SetupConfiguresTheStation := by
  intro straps instant ps s frame length fresh branch strapped set docking fault toFault faults
  have setup : clampSetup (setupOfParams ps) = set := clampSetup_setupOfParams ps
  obtain ⟨zero, bound, bits⟩ := setupMask_spec ps
  rw [exec_setup frame length, if_neg (by simp [fresh]), if_neg (Nat.not_lt.mpr branch),
    if_neg (Nat.not_le_of_lt (Nat.lt_succ_of_le strapped)), State.takeSetup_eq, clampedResponse_eq, configBytes_length]
  rw [setup] at zero bound bits ⊢
  by_cases opened : s.qual.preFb.level = false ∧ s.qual.mainFb.level = false
  · obtain ⟨pre, main⟩ := opened
    rw [State.settle_of_open (by exact pre) (by exact main)]
    refine ⟨_, _, rfl, rfl, rfl, rfl, fun _ _ => ⟨rfl, rfl, rfl, rfl, rfl⟩, ?_, zero, bound, ?_⟩
    · intro closed
      exact absurd closed (by simp [pre, main])
    · obtain ⟨b0, b1, b2, b3, b4, b5, b6, b7, b8⟩ := bits
      exact ⟨b0, b1, b2, b3, b4, b5, b6, b7, b8, rfl, rfl⟩
  · have closed : s.qual.preFb.level = true ∨ s.qual.mainFb.level = true := by
      cases pre : s.qual.preFb.level with
      | true => exact .inl rfl
      | false => exact .inr (by simpa [pre] using opened)
    obtain ⟨notices, order, settled⟩ := State.settle_of_closed
      (s := (({ s with port := s.port.taken } : State).readStraps straps).configure set straps.toNat instant) closed
    rw [settled]
    refine ⟨_, _, rfl, rfl, rfl, rfl, fun pre main => ?_, fun _ => ⟨rfl, rfl, rfl, ?_, ?_, ?_, ?_, order⟩, zero, bound,
      ?_⟩
    · exact absurd ⟨pre, main⟩ opened
    · exact fun pre => congrArg settledConfirm pre
    · exact fun pre => congrArg settledConfirm pre
    · exact fun main => congrArg settledConfirm main
    · exact fun main => congrArg settledConfirm main
    · obtain ⟨b0, b1, b2, b3, b4, b5, b6, b7, b8⟩ := bits
      exact ⟨b0, b1, b2, b3, b4, b5, b6, b7, b8, rfl, rfl⟩

end Sys2Proof.Machine
end

section
-- Proofs elaborated in order keep the number of threads within what the check's memory limit allows.
set_option Elab.async false
/-! The smaller accesses and points: the expected-commit write, PORT RESET's view part, the compute point, and what a
round boundary makes due (R66, R78, R84, R85, R135, R167, R169). -/

namespace Sys2Proof.Machine

/-! ### The expected-commit write (R66) -/

theorem shareOf_of_absent {rows : List ResultRow} {pad : Nat} (absent : ∀ row ∈ rows, row.pad ≠ pad) :
    shareOf rows pad = none := by
  rw [shareOf, List.find?_eq_none.2 fun row mem => by simpa using absent row mem]
  rfl

theorem shareOf_of_unique {rows : List ResultRow} {row : ResultRow} (mem : row ∈ rows)
    (unique : ∀ other ∈ rows, other.pad = row.pad → other = row) : shareOf rows row.pad = some row.share := by
  cases found : rows.find? fun r => r.pad == row.pad with
  | none => exact absurd (List.find?_eq_none.1 found row mem) (by simp)
  | some first =>
    have same : first.pad = row.pad := by simpa using List.find?_some found
    rw [shareOf, found, unique first (List.mem_of_find?_eq_some found) same]
    rfl

/-- Settles O19: each entry takes the share that the result table holds for its pad. -/
theorem expectedCommitsAreTheShares : Obligations.ExpectedCommitsAreTheShares := by
  intro s held grant
  have granted : s.granted .expectedWrite = true := by simp [State.granted, grant]
  have entry : ∀ pad < s.view.entries.length,
      (withExpected s.standing.pad s.share.published.rows s.view.entries).getD pad Entry.blank =
        if some pad = s.standing.pad then s.view.entry pad
        else { s.view.entry pad with expected := shareOf s.share.published.rows pad } :=
    fun pad inside => getD_mapIdx_entry _ _ pad inside
  rw [exec, execExpectedCommitWrite, State.act_taken _ held granted]
  refine ⟨_, rfl, fun pad inside own => ?_, fun pad inside peer => ?_, rfl⟩
  · exact (entry pad inside).trans (if_pos own.symm)
  · have row := (entry pad inside).trans (if_neg (Ne.symm peer))
    have expected := congrArg Entry.expected row
    refine ⟨row.trans (congrArg (fun x => { s.view.entry pad with expected := x }) expected.symm),
      fun absent => expected.trans (shareOf_of_absent absent), ?_⟩
    rintro row mem rfl unique
    exact expected.trans (shareOf_of_unique mem unique)

/-! ### PORT RESET's view part (R78) -/

theorem Entry.portReset_of_not_held {e : Entry} (other : e.state ≠ .held) : e.portReset = Entry.blank := by
  cases state : e.state <;> simp_all [Entry.portReset]

theorem Entry.portReset_state (e : Entry) : e.portReset.state = if e.state = .held then .held else .empty := by
  by_cases held : e.state = .held
  · rw [Entry.portReset_of_held held, if_pos held, held]
  · rw [Entry.portReset_of_not_held held, if_neg held]
    rfl

theorem getD_map_portReset (entries : List Entry) (pad : Nat) :
    (entries.map Entry.portReset).getD pad Entry.blank = (entries.getD pad Entry.blank).portReset := by
  rw [← show Entry.blank.portReset = Entry.blank from rfl, List.getD_map]
  rfl

/-- The held set depends only on which entries are HELD. -/
theorem heldOf_congr {entries entries' : List Entry}
    (same : ∀ pad,
      ((entries.getD pad Entry.blank).state == .held) = ((entries'.getD pad Entry.blank).state == .held)) :
    heldOf entries = heldOf entries' := by
  rw [heldOf, heldOf, List.map_congr_left fun pad _ => same pad]

theorem countOf_map_portReset (entries : List Entry) (st : EntryState) (filled : st ≠ .empty) :
    countOf (entries.map Entry.portReset) st = if st = .held then countOf entries .held else 0 := by
  rw [countOf, List.countP_map]
  by_cases held : st = .held
  · rw [if_pos held, held, countOf]
    refine List.countP_congr fun e _ => ?_
    by_cases h : e.state = .held <;> simp [Entry.portReset_state, h]
  · rw [if_neg held, List.countP_eq_zero]
    intro e _
    by_cases h : e.state = .held <;> simp [Entry.portReset_state, h, Ne.symm held, Ne.symm filled]

theorem exec_portResetViewAccess {s : State} {w : PortWait} (held : s.resetHeld = false)
    (grant : s.store.grant = some .portResetView) (waits : s.port.waiting = some w) :
    exec .portResetViewAccess s =
      .next { s with
        view := { s.view.withEntries (s.view.entries.map Entry.portReset) with cursor := 0 }
        store := s.store.release
        port := s.port.finishing w [0x80, 0] } := by
  have granted : s.granted .portResetView = true := by simp [State.granted, grant]
  rw [exec, execPortResetViewAccess, State.act_taken _ held granted]
  exact congrArg _ (State.answerWaiting_eq (w := w) _ (by exact waits) _)

/-- Settles O22: the reset keeps exactly the HELD entries, so the held set and its count stay. -/
theorem portResetAccessKeepsOnlyHeldEntries : Obligations.PortResetAccessKeepsOnlyHeldEntries := by
  intro w s held grant waits
  refine ⟨_, exec_portResetViewAccess held grant waits, fun pad _ isHeld => ?_, fun pad _ other => ?_, ?_, ?_, ?_, ?_,
    ?_, rfl, rfl, rfl⟩
  · exact (getD_map_portReset _ _).trans (Entry.portReset_of_held isHeld)
  · exact (getD_map_portReset _ _).trans (Entry.portReset_of_not_held other)
  · refine heldOf_congr fun pad => ?_
    rw [getD_map_portReset, Entry.portReset_state]
    split
    next isHeld => rw [isHeld]
    next other => exact (beq_eq_false_iff_ne.2 other).symm
  · exact countOf_map_portReset _ _ (by decide)
  · exact countOf_map_portReset _ _ (by decide)
  · exact countOf_map_portReset _ _ (by decide)
  · exact countOf_map_portReset _ _ (by decide)

/-! ### The compute point (R84, R85, R135) -/

theorem State.ownCurtailNow_iff (s : State) :
    s.ownCurtailNow = true ↔ s.qual.curtail.level = true ∨ s.limit.assertionSeen = true
      ∨ (s.limit.ownCurtail = true ∧ s.limit.levelSeen = true) := by
  simp [State.ownCurtailNow, or_assoc]

theorem State.ownCandidateNow_isSome (s : State) :
    s.ownCandidateNow.isSome = true ↔ s.session.state = .intent ∧ s.standing.state = .active
      ∧ s.line.echo = .good ∧ s.line.sent.claim.intent = .connect := by
  unfold State.ownCandidateNow
  split
  next stands => exact iff_of_true rfl stands
  next lacks => exact iff_of_false nofun lacks

theorem State.ownCandidateNow_fields {s : State} {c : Candidate} (own : s.ownCandidateNow = some c) :
    c.branch = s.cfg.branch ∧ c.age = s.line.sent.claim.intentAge
      ∧ ∀ pad, s.standing.pad = some pad → c.pad = pad := by
  unfold State.ownCandidateNow at own
  split at own
  · obtain rfl := Option.some.inj own
    exact ⟨rfl, rfl, fun pad known => by simp [known]⟩
  · cases own

/-- Settles O23: each conjunct is a field of the state at the compute point. -/
theorem computePointSettlesCurtailAndCandidacy : Obligations.ComputePointSettlesCurtailAndCandidacy := by
  intro s held due
  rw [exec, execComputePoint, State.act_taken _ held due]
  exact ⟨_, rfl, s.ownCurtailNow_iff, rfl, rfl, rfl, rfl, rfl, rfl, rfl, s.ownCandidateNow_isSome,
    fun c => State.ownCandidateNow_fields, rfl, rfl, rfl, rfl⟩

/-! ### What a round boundary makes due (R167, R169, R50) -/

theorem State.setSession_fault_of_connected {s : State} (c : Cause) (connected : s.session.state = .connected) :
    s.setSession .fault c =
      { s with
        session := { s.session with state := .fault, overdrawRun := 0, held := [] }
        due := { s.due with overdraw := none, reportLost := none }
        notices := s.notices.push (s.sessionNotice .fault c) } := by
  simp [State.setSession, connected, State.sessionNotice, sessionNoticeValue]

/-- The one-second tick (R167). -/
theorem exec_oneSecondTick {s : State} (held : s.resetHeld = false) (due : s.due.tick = true) :
    exec .oneSecondTick s = .next { s with
      due := { s.due with tick := false }
      session := { s.session with record := s.session.record.map Record.tick } } := by
  rw [exec, execOneSecondTick, State.act_taken _ held due]

/-- Settles O38: the tick, the two stops and the resynchronisation, each in the state that raises it. -/
theorem roundBoundaryFollowUpsTakeEffect : Obligations.RoundBoundaryFollowUpsTakeEffect := by
  refine ⟨fun s held due => ?tick,
    ⟨fun kw s held due connected => ?overdraw, fun age s held due connected => ?lost⟩,
    fun s held due transmits => ?resync⟩
  case tick =>
    refine ⟨_, exec_oneSecondTick held due, fun r d record departure => ?_, fun r record departure => ?_,
      fun none => ?_, rfl⟩
    · rw [record, Option.map_some, Record.tick, departure]
      rfl
    · rw [record, Option.map_some, Record.tick, departure, Option.map_none, ← departure]
    · rw [none, Option.map_none]
  case overdraw =>
    rw [exec, execOverdraw, State.act_taken _ held (by rw [due]; rfl), due,
      State.setSession_fault_of_connected _ (by exact connected)]
    rfl
  case lost =>
    rw [exec, execReportLost, State.act_taken _ held (by rw [due]; rfl), due,
      State.setSession_rest (by exact connected.trans_ne (by decide)) (by decide)]
    exact ⟨_, rfl, Seq.requestOpen_normal_of_none, Seq.requestOpen_normal_of_some, rfl⟩
  case resync =>
    have transmitting : s.standing.state.transmitting = true := by
      obtain state | state | state := transmits <;> rw [state] <;> rfl
    rw [exec, execMisalignmentResync, State.act_taken _ held due, if_pos transmitting]
    rfl

end Sys2Proof.Machine
end

section
-- Proofs elaborated in order keep the number of threads within what the check's memory limit allows.
set_option Elab.async false
/-! The switch window (R143 to R149). -/

namespace Sys2Proof.Machine

/-- The opening may be made in this window (R149). -/
def State.Opens (s : State) : Prop :=
  (s.seq.phase = .precharging ∨ s.seq.phase = .mainClosing ∨ s.seq.phase = .preRelease
      ∨ s.seq.phase = .on ∨ s.seq.phase = .faulted)
    ∧ (s.seq.preDrive = true ∨ s.seq.mainDrive = true) ∧ s.applyUnit.applied = 0
    ∧ (s.seq.openMode = .forced
      ∨ (s.seq.openMode = .normal
        ∧ ((s.session.lastMeasured ≤ s.cfg.openThreshold ∧ s.session.reportAge < 4) ∨ s.seq.openTimeout = 50)))

theorem Phase.canOpen_iff (p : Phase) :
    p.canOpen = true ↔ p = .precharging ∨ p = .mainClosing ∨ p = .preRelease ∨ p = .on ∨ p = .faulted := by
  cases p <;> simp [Phase.canOpen]

theorem State.mayOpen_iff (s : State) :
    s.mayOpen = true ↔ s.applyUnit.applied = 0
      ∧ (s.seq.openMode = .forced
        ∨ (s.seq.openMode = .normal
          ∧ ((s.session.lastMeasured ≤ s.cfg.openThreshold ∧ s.session.reportAge < 4)
            ∨ s.seq.openTimeout = 50))) := by
  unfold State.mayOpen
  cases mode : s.seq.openMode <;> simp

theorem State.opens_iff (s : State) :
    (s.seq.phase.canOpen && s.seq.anyDrive && s.mayOpen) = true ↔ s.Opens := by
  rw [State.Opens, ← Phase.canOpen_iff, ← State.mayOpen_iff]
  simp [Seq.anyDrive, and_assoc]

/-- The window's mark is taken back before the window acts. -/
def State.windowTaken (s : State) : State := { s with due := { s.due with switchWindow := false } }

theorem exec_switchWindow_of_opens {s : State} (held : s.resetHeld = false) (due : s.due.switchWindow = true)
    (opens : s.Opens) : exec .switchWindow s = .next s.windowTaken.openContactors := by
  rw [exec, execSwitchWindow, State.act_taken _ held due]
  exact congrArg _ (if_pos (s.opens_iff.2 opens))

theorem exec_switchWindow_of_not {s : State} (held : s.resetHeld = false) (due : s.due.switchWindow = true)
    (stays : ¬s.Opens) : exec .switchWindow s = .next s.windowTaken.windowByPhase := by
  rw [exec, execSwitchWindow, State.act_taken _ held due]
  exact congrArg _ (if_neg fun opens => stays (s.opens_iff.1 opens))

/-! ### What contactors open writes -/

theorem State.contactorsOpen_frame (s : State) :
    let t := s.contactorsOpen
    t =
      { s with
        session := { s.session with state := t.session.state, overdrawRun := t.session.overdrawRun }
        due := { s.due with overdraw := t.due.overdraw, reportLost := t.due.reportLost }
        notices := t.notices } := by
  obtain ⟨turn, held, -⟩ := s.contactorsOpen_calm
  refine Eq.trans s.contactorsOpen_acts ?_
  rw [State.withActs, turn, held]
  rfl

/-- The session's part of contactors open (R159). -/
theorem State.contactorsOpen_spec (s : State) :
    (s.session.state = .stopping →
        s.contactorsOpen.session.state = s.restState
          ∧ s.contactorsOpen.notices = s.notices.push (s.sessionNotice s.restState .opened))
      ∧ (s.session.state ≠ .stopping →
        s.contactorsOpen.session.state = s.session.state ∧ s.contactorsOpen.notices = s.notices) :=
  ⟨State.contactorsOpen_of_stopping, State.contactorsOpen_of_not_stopping⟩

/-! ### The opening (R149) -/

/-- Both drives off, each that was on with its confirm state set from the feedback (R141, R149). -/
def Seq.opened (q : Seq) (pre main : Bool) : Seq :=
  { q with
    preDrive := false
    mainDrive := false
    preConfirm := if q.preDrive then confirmAfterChange false pre else q.preConfirm
    mainConfirm := if q.mainDrive then confirmAfterChange false main else q.mainConfirm
    phase := if q.phase = .faulted then .faulted else .opening }

theorem Seq.switchOff_both (q : Seq) (pre main : Bool) :
    ({ (q.switchOff .pre pre).switchOff .main main with
        phase := if q.phase = .faulted then .faulted else .opening } : Seq) = q.opened pre main := by
  obtain ⟨preDrive, mainDrive, _⟩ := q
  cases preDrive <;> cases mainDrive <;> rfl

theorem State.openContactors_eq (s : State) :
    s.openContactors = { s with seq := s.seq.opened (s.feedback .pre) (s.feedback .main) }.openingConfirmed := by
  rw [← Seq.switchOff_both]
  rfl

/-! ### The phases (R144 to R146) -/

theorem State.windowByPhase_of_cancelled {s : State}
    (phase : s.seq.phase = .turnTaken) (mode : s.seq.openMode = .forced) :
    s.windowByPhase = { s with seq := s.seq.enterIdle }.contactorsOpen := by
  rw [State.windowByPhase, phase]
  exact if_pos mode

theorem State.windowByPhase_of_turnTaken {s : State} (phase : s.seq.phase = .turnTaken)
    (mode : s.seq.openMode ≠ .forced) :
    s.windowByPhase =
      { s with
        seq :=
          { s.seq with
            preDrive := true, preConfirm := confirmAfterChange true s.qual.preFb.level, phase := .precharging,
            prechargeCount := 0, switched := true, switchedFresh := true } } := by
  rw [State.windowByPhase, phase]
  exact if_neg mode

theorem State.mainDue_iff (s : State) :
    s.mainDue = true ↔ s.cfg.prechargeRounds ≤ s.seq.prechargeCount ∧ s.seq.preConfirm = .agreed := by
  simp [State.mainDue]

theorem State.windowByPhase_of_precharging {s : State} (phase : s.seq.phase = .precharging)
    (mode : s.seq.openMode = .none) :
    s.windowByPhase =
      { s with
        seq :=
          if s.cfg.prechargeRounds ≤ s.seq.prechargeCount ∧ s.seq.preConfirm = .agreed then
            { s.seq with
              mainDrive := true, mainConfirm := confirmAfterChange true s.qual.mainFb.level, phase := .mainClosing }
          else s.seq } := by
  rw [State.windowByPhase, phase]
  refine (if_pos mode).trans ?_
  unfold State.closeMain
  by_cases due : s.mainDue = true
  · rw [if_pos due, if_pos (s.mainDue_iff.1 due)]
    rfl
  · rw [if_neg due, if_neg fun h => due (s.mainDue_iff.2 h)]

theorem State.windowByPhase_of_preRelease {s : State} (phase : s.seq.phase = .preRelease)
    (mode : s.seq.openMode = .none) :
    s.windowByPhase =
      { s with
        seq :=
          { s.seq with
            preDrive := false, preConfirm := confirmAfterChange false s.qual.preFb.level, phase := .on } } := by
  rw [State.windowByPhase, phase]
  exact if_pos mode

theorem State.windowByPhase_of_other {s : State} (turn : s.seq.phase ≠ .turnTaken)
    (mode : s.seq.openMode = .none → s.seq.phase ≠ .precharging ∧ s.seq.phase ≠ .preRelease) :
    s.windowByPhase = s := by
  unfold State.windowByPhase
  split
  next phase => exact absurd phase turn
  next phase => exact if_neg fun none => (mode none).1 phase
  next phase => exact if_neg fun none => (mode none).2 phase
  all_goals rfl


/-! ### The obligation -/

theorem Seq.opened_iff (q : Seq) (pre main : Bool) :
    (q.opened pre main).Opened ↔
      q.phase ≠ .faulted ∧ (q.opened pre main).preConfirm = .agreed
        ∧ (q.opened pre main).mainConfirm = .agreed := by
  refine and_congr_left' ?_
  by_cases faulted : q.phase = .faulted <;> simp [Seq.opened, faulted]

/-- The confirm states after an opening (R141, R149). -/
theorem Seq.opened_confirms (q : Seq) (pre main : Bool) :
    (q.preDrive = true → (q.opened pre main).preConfirm = confirmAfterChange false pre)
      ∧ (q.mainDrive = true → (q.opened pre main).mainConfirm = confirmAfterChange false main)
      ∧ (q.preDrive = false → (q.opened pre main).preConfirm = q.preConfirm)
      ∧ (q.mainDrive = false → (q.opened pre main).mainConfirm = q.mainConfirm) :=
  ⟨fun on => if_pos on, fun on => if_pos on, fun off => if_neg (by simp [off]), fun off => if_neg (by simp [off])⟩

/-- Settles O33: a window opens, or acts by its phase. -/
theorem switchWindowMakesTheDriveChangesDue : Obligations.SwitchWindowMakesTheDriveChangesDue := by
  intro s held due opens after rest
  by_cases mayOpen : opens
  · have run := exec_switchWindow_of_opens held due mayOpen
    rw [State.openContactors_eq] at run
    have noTurn : s.seq.phase ≠ .turnTaken := by
      intro turn
      simp [opens, turn] at mayOpen
    have asked : s.seq.openMode ≠ .none := by
      intro none
      simp [opens, none] at mayOpen
    obtain ⟨preOn, mainOn, preOff, mainOff⟩ := s.seq.opened_confirms (s.feedback .pre) (s.feedback .main)
    by_cases opened : (s.seq.opened (s.feedback .pre) (s.feedback .main)).Opened
    · obtain ⟨healthy, pre, main⟩ := (Seq.opened_iff _ _ _).1 opened
      rw [State.openingConfirmed_of_opened (by exact opened)] at run
      exact ⟨_, run, fun turn => absurd turn noTurn, fun turn => absurd turn noTurn, fun _ none => absurd none asked,
        fun _ none => absurd none asked,
        fun _ => ⟨rfl, rfl, preOn, mainOn, preOff, mainOff, fun faulted => absurd faulted healthy,
          fun _ differ => absurd ⟨pre, main⟩ differ, fun _ _ _ => ⟨rfl, rfl, State.contactorsOpen_spec _⟩⟩,
        fun stays => absurd mayOpen stays, State.contactorsOpen_frame _⟩
    · rw [State.openingConfirmed_of_not (by exact opened)] at run
      exact ⟨_, run, fun turn => absurd turn noTurn, fun turn => absurd turn noTurn, fun _ none => absurd none asked,
        fun _ none => absurd none asked,
        fun _ => ⟨rfl, rfl, preOn, mainOn, preOff, mainOff, fun faulted => ⟨if_pos faulted, rfl, rfl, rfl⟩,
          fun healthy _ => ⟨if_neg healthy, rfl, rfl, rfl⟩,
          fun healthy pre main => absurd ((Seq.opened_iff _ _ _).2 ⟨healthy, pre, main⟩) opened⟩,
        fun stays => absurd mayOpen stays, rfl⟩
  · have run := exec_switchWindow_of_not held due mayOpen
    by_cases turn : s.seq.phase = .turnTaken
    · by_cases forced : s.seq.openMode = .forced
      · rw [State.windowByPhase_of_cancelled (by exact turn) (by exact forced)] at run
        exact ⟨_, run, fun _ other => absurd forced other, fun _ _ => ⟨rfl, State.contactorsOpen_spec _⟩,
          fun phase => absurd (turn.symm.trans phase) (by decide),
          fun phase => absurd (turn.symm.trans phase) (by decide), fun opens => absurd opens mayOpen,
          fun _ other => absurd turn other, State.contactorsOpen_frame _⟩
      · rw [State.windowByPhase_of_turnTaken (by exact turn) (by exact forced)] at run
        exact ⟨_, run, fun _ _ => ⟨rfl, rfl, rfl⟩, fun _ mode => absurd mode forced,
          fun phase => absurd (turn.symm.trans phase) (by decide),
          fun phase => absurd (turn.symm.trans phase) (by decide), fun opens => absurd opens mayOpen,
          fun _ other => absurd turn other, rfl⟩
    · by_cases precharging : s.seq.phase = .precharging ∧ s.seq.openMode = .none
      · obtain ⟨phase, none⟩ := precharging
        rw [State.windowByPhase_of_precharging (by exact phase) (by exact none)] at run
        refine ⟨_, run, fun other => absurd other turn, fun other => absurd other turn,
          fun _ _ => ⟨rfl, rfl, rfl⟩, fun other => absurd (phase.symm.trans other) (by decide),
          fun opens => absurd opens mayOpen,
          fun _ _ others => absurd phase (others none).1, ?_⟩
        by_cases due : s.cfg.prechargeRounds ≤ s.seq.prechargeCount ∧ s.seq.preConfirm = .agreed
        · rw [if_pos (by exact due)]
          rfl
        · rw [if_neg (by exact due)]
          rfl
      · by_cases releasing : s.seq.phase = .preRelease ∧ s.seq.openMode = .none
        · obtain ⟨phase, none⟩ := releasing
          rw [State.windowByPhase_of_preRelease (by exact phase) (by exact none)] at run
          exact ⟨_, run, fun other => absurd other turn, fun other => absurd other turn,
            fun other => absurd (phase.symm.trans other) (by decide), fun _ _ => ⟨rfl, rfl, rfl⟩,
            fun opens => absurd opens mayOpen, fun _ _ others => absurd phase (others none).2, rfl⟩
        · rw [State.windowByPhase_of_other (s := s.windowTaken) (by exact turn) fun none =>
            ⟨fun phase => precharging ⟨phase, none⟩, fun phase => releasing ⟨phase, none⟩⟩] at run
          exact ⟨_, run, fun other => absurd other turn, fun other => absurd other turn,
            fun phase none => absurd ⟨phase, none⟩ precharging,
            fun phase none => absurd ⟨phase, none⟩ releasing,
            fun opens => absurd opens mayOpen, fun _ _ _ => rfl, rfl⟩

end Sys2Proof.Machine
end

section
-- Proofs elaborated in order keep the number of threads within what the check's memory limit allows.
set_option Elab.async false
/-! The own claim on the pad line: its load and the transmit decision (R10, R12, R40), and the end of the own frame
(R13, R14, R17, R44 to R48). -/

namespace Sys2Proof.Machine

/-! ### OWN_SLOT_START -/

theorem StandingCtl.transmits_iff (st : StandingCtl) :
    st.transmits = true ↔
      st.state = .active ∨ ((st.state = .backoff ∨ st.state = .isolated) ∧ st.backoff = 0) := by
  unfold StandingCtl.transmits
  cases st.state <;> simp

theorem StandingCtl.skips_iff (st : StandingCtl) :
    st.skips = true ↔ (st.state = .backoff ∨ st.state = .isolated) ∧ 0 < st.backoff := by
  unfold StandingCtl.skips
  cases st.state <;> simp

theorem RxState.receiving_iff (rx : RxState) : rx.receiving = true ↔ rx = .preamble ∨ rx = .data := by
  cases rx <;> simp [RxState.receiving]

/-- The line with the own claim loaded, where no own frame begins and where one does. -/
theorem exec_ownSlotStart {s : State} (held : s.resetHeld = false) (due : s.due.ownSlot = true) :
    ∃ active abandoned txd errors rx bits,
      exec .ownSlotStart s = .next { s with
        due := { s.due with ownSlot := false }
        applyUnit := { s.applyUnit with lastCommit := s.applyUnit.grant }
        standing := { s.standing with skipped := s.standing.skips }
        line :=
          { s.line with
            pending := s.loadedHalf, echo := .notSent, txActive := active, txAbandoned := abandoned, txd := txd,
            errors := errors, rx := { s.line.rx with state := rx, bits := bits } } }
      ∧ (s.standing.transmits = true →
          active = true ∧ txd = true ∧ rx = .echoCheck
            ∧ errors = if s.line.rx.state.receiving then min 65535 (s.line.errors + 1) else s.line.errors)
      ∧ (s.standing.transmits = false →
          active = s.line.txActive ∧ abandoned = s.line.txAbandoned ∧ txd = s.line.txd ∧ errors = s.line.errors
            ∧ rx = s.line.rx.state ∧ bits = s.line.rx.bits) := by
  rw [exec, execOwnSlotStart, State.act_taken _ held due]
  cases transmits : s.standing.transmits with
  | true => exact ⟨_, _, _, _, _, _, rfl, fun _ => ⟨rfl, rfl, rfl, rfl⟩, nofun⟩
  | false => exact ⟨_, _, _, _, _, _, rfl, nofun, fun _ => ⟨rfl, rfl, rfl, rfl, rfl, rfl⟩⟩

theorem State.sessionRequest_of_some {s : State} {r : Record} (record : s.session.record = some r) :
    let asked := min (min r.maxAccept s.cfg.chargerRating) (max (s.applyUnit.grant + s.cfg.rampStep) (r.floor.getD 0))
    s.sessionFloor = r.floor.getD 0
      ∧ s.sessionRequest = if 4 ≤ s.session.reportAge then min asked s.applyUnit.applied else asked := by
  simp [State.sessionRequest, State.sessionPower, State.sessionFloor, record]

theorem State.sessionRequest_of_none {s : State} (record : s.session.record = none) :
    s.sessionFloor = 0 ∧ s.sessionRequest = 0 := by
  simp [State.sessionRequest, State.sessionPower, State.sessionFloor, record]

theorem kindOfSession_active_iff (st : SessionState) : kindOfSession st = .active ↔ st = .connected := by
  cases st <;> simp [kindOfSession]

theorem State.sessionWeight_of_not_connected {s : State} (other : s.session.state ≠ .connected) :
    s.sessionWeight = 0 :=
  if_neg fun active => other ((kindOfSession_active_iff _).1 active)

theorem State.loadedHalf_check (s : State) : s.loadedHalf.check = crc16 (claimBits s.loadedHalf.claim) := by
  rw [State.loadedHalf]

/-- Settles O13: the load does not depend on the transmit decision, and the decision is the standing's. -/
theorem ownSlotLoadsTheClaimAndDecides : Obligations.OwnSlotLoadsTheClaimAndDecides := by
  intro s held due
  obtain ⟨active, abandoned, txd, errors, rx, bits, run, sends, stays⟩ := exec_ownSlotStart held due
  refine ⟨_, run, rfl, rfl, rfl, fun r => State.sessionRequest_of_some, State.sessionRequest_of_none, ?_,
    State.sessionWeight_of_not_connected, fun intent => ⟨if_pos intent, if_pos intent⟩,
    fun other => ⟨if_neg other, if_neg other⟩, rfl, rfl, rfl, fun pad known => ?_, rfl, rfl, rfl, rfl,
    s.loadedHalf_check, rfl,
    s.standing.skips_iff, fun transmits => ?_, fun silent => ?_, rfl⟩
  · change kindOfSession s.session.state = _
    cases s.session.state <;> rfl
  · change s.standing.pad.getD 0 = pad
    rw [known]
    rfl
  · obtain ⟨rfl, rfl, rfl, rfl⟩ := sends (s.standing.transmits_iff.2 transmits)
    refine ⟨rfl, rfl, rfl, rfl, ?_, ?_⟩
    · exact congrArg (fun b => TxdPin.frame (b.map cellOfBit)) (List.append_assoc preambleBits _ _).symm
    · simp only [RxState.receiving_iff]
  · obtain ⟨rfl, rfl, rfl, rfl, rfl, rfl⟩ :=
      stays (Bool.eq_false_iff.2 fun transmits => silent (s.standing.transmits_iff.1 transmits))
    rfl

/-! ### OWN_FRAME_END -/

/-- The echo is good where the frame is read back without a violation and its CRC matches (R14). -/
theorem echoGood_iff (h : Half) (readBack : List LineCell) :
    echoGood h readBack = true ↔ hasViolation readBack = false ∧ bitsBeforeViolation readBack = frameBits h
      ∧ checkMatches (halfBits h) = true := by
  have data : (frameBits h).drop 8 = halfBits h := List.drop_left' rfl
  simp only [echoGood, Bool.and_eq_true, Bool.not_eq_true', beq_iff_eq, and_assoc]
  refine and_congr_right fun _ => and_congr_right fun same => ?_
  rw [same, data]

section Echo

variable {s : State}

theorem State.takeGoodEcho_of_backoff (state : s.standing.state = .backoff) :
    s.takeGoodEcho = { s with standing := s.standing.enter .active } := by
  rw [State.takeGoodEcho, state]

theorem State.takeGoodEcho_of_first (state : s.standing.state = .isolated) (run : s.standing.goodRun = 0) :
    s.takeGoodEcho = { s with standing := { s.standing with goodRun := 1 } } := by
  rw [State.takeGoodEcho, state, run]
  rfl

theorem State.takeGoodEcho_of_second (state : s.standing.state = .isolated) (run : s.standing.goodRun = 1) :
    s.takeGoodEcho =
      { s with standing := s.standing.enter .active }.raise .rejoined s.standing.pad (some s.standing.failures) := by
  rw [State.takeGoodEcho, state, run]
  rfl

theorem State.takeGoodEcho_of_other (backoff : s.standing.state ≠ .backoff)
    (isolated : s.standing.state ≠ .isolated) :
    s.takeGoodEcho = s := by
  unfold State.takeGoodEcho
  split
  · exact absurd ‹_› backoff
  · exact absurd ‹_› isolated
  · rfl

theorem State.takeGoodEcho_frame (s : State) :
    ∃ standing notices, s.takeGoodEcho = { s with standing, notices } := by
  unfold State.takeGoodEcho
  split
  · exact ⟨_, _, rfl⟩
  · split
    · exact ⟨_, _, rfl⟩
    · exact ⟨_, _, rfl⟩
  · exact ⟨_, _, rfl⟩

/-- A further failure in the same standing (R47, R48). -/
def State.failedAgain (s : State) (failures : Nat) : StandingCtl :=
  { s.standing with failures := failures, backoff := backoffLength s.identity failures, goodRun := 0 }

theorem State.backedOff_same {new : Standing} (state : s.standing.state = new) (failures : Nat) :
    s.backedOff new failures = s.failedAgain failures := by
  rw [State.backedOff, ← state]
  rfl

theorem State.takeFailedEcho_of_active (state : s.standing.state = .active) :
    s.takeFailedEcho = { s with standing := s.backedOff .backoff 1 } := by
  rw [State.takeFailedEcho, state]

theorem State.takeFailedEcho_of_isolated (state : s.standing.state = .isolated) :
    s.takeFailedEcho = { s with standing := s.failedAgain (min 255 (s.standing.failures + 1)) } := by
  rw [State.takeFailedEcho, ← State.backedOff_same state, state]

theorem State.takeFailedEcho_of_sixth (state : s.standing.state = .backoff)
    (sixth : min 255 (s.standing.failures + 1) = 6) :
    s.takeFailedEcho =
      { s with standing := s.backedOff .isolated 6 }.raise .isolated s.standing.pad (some 6) := by
  rw [State.takeFailedEcho, state]
  exact if_pos sixth

theorem State.takeFailedEcho_of_backoff (state : s.standing.state = .backoff)
    (other : min 255 (s.standing.failures + 1) ≠ 6) :
    s.takeFailedEcho = { s with standing := s.failedAgain (min 255 (s.standing.failures + 1)) } := by
  rw [State.takeFailedEcho, ← State.backedOff_same state, state]
  exact if_neg other

theorem State.takeFailedEcho_of_silent (silent : s.standing.state.transmitting = false) : s.takeFailedEcho = s := by
  unfold State.takeFailedEcho
  cases state : s.standing.state <;> simp_all [Standing.transmitting]

theorem State.takeFailedEcho_frame (s : State) :
    ∃ standing notices, s.takeFailedEcho = { s with standing, notices } := by
  unfold State.takeFailedEcho
  split
  · exact ⟨_, _, rfl⟩
  · by_cases sixth : min 255 (s.standing.failures + 1) = 6
    · exact ⟨_, _, if_pos sixth⟩
    · exact ⟨_, _, if_neg sixth⟩
  · exact ⟨_, _, rfl⟩
  · exact ⟨_, _, rfl⟩

/-- What a good echo does to the standing, by the standing (R44, R47, R48). -/
theorem State.takeGoodEcho_spec (s : State) :
    ∃ standing notices, s.takeGoodEcho = { s with standing, notices }
      ∧ (s.standing.state = .backoff → standing = s.standing.enter .active ∧ notices = s.notices)
      ∧ (s.standing.state = .isolated → s.standing.goodRun = 0 →
          standing = { s.standing with goodRun := 1 } ∧ notices = s.notices)
      ∧ (s.standing.state = .isolated → s.standing.goodRun = 1 →
          standing = s.standing.enter .active
            ∧ notices = s.notices.push (s.notice .rejoined s.standing.pad (some s.standing.failures)))
      ∧ (s.standing.state ≠ .backoff → s.standing.state ≠ .isolated →
          standing = s.standing ∧ notices = s.notices) := by
  obtain ⟨standing, notices, frame⟩ := s.takeGoodEcho_frame
  have fields {t : State} (same : s.takeGoodEcho = t) : standing = t.standing ∧ notices = t.notices := by
    rw [← same, frame]
    exact ⟨rfl, rfl⟩
  exact ⟨standing, notices, frame, fun state => fields (State.takeGoodEcho_of_backoff state),
    fun state run => fields (State.takeGoodEcho_of_first state run),
    fun state run => fields (State.takeGoodEcho_of_second state run),
    fun backoff isolated => fields (State.takeGoodEcho_of_other backoff isolated)⟩

/-- What a failed echo does to the standing, by the standing (R44, R47, R48). -/
theorem State.takeFailedEcho_spec (s : State) :
    let k := min 255 (s.standing.failures + 1)
    ∃ standing notices, s.takeFailedEcho = { s with standing, notices }
      ∧ (s.standing.state = .active → standing = s.backedOff .backoff 1 ∧ notices = s.notices)
      ∧ (s.standing.state = .backoff → k ≠ 6 → standing = s.failedAgain k ∧ notices = s.notices)
      ∧ (s.standing.state = .backoff → k = 6 →
          standing = s.backedOff .isolated 6
            ∧ notices = s.notices.push (s.notice .isolated s.standing.pad (some 6)))
      ∧ (s.standing.state = .isolated → standing = s.failedAgain k ∧ notices = s.notices)
      ∧ (s.standing.state.transmitting = false → standing = s.standing ∧ notices = s.notices) := by
  obtain ⟨standing, notices, frame⟩ := s.takeFailedEcho_frame
  have fields {t : State} (same : s.takeFailedEcho = t) : standing = t.standing ∧ notices = t.notices := by
    rw [← same, frame]
    exact ⟨rfl, rfl⟩
  exact ⟨standing, notices, frame, fun state => fields (State.takeFailedEcho_of_active state),
    fun state other => fields (State.takeFailedEcho_of_backoff state other),
    fun state sixth => fields (State.takeFailedEcho_of_sixth state sixth),
    fun state => fields (State.takeFailedEcho_of_isolated state),
    fun silent => fields (State.takeFailedEcho_of_silent silent)⟩

end Echo

/-- The own frame's end at the line interface (R13, R14, R17). -/
def State.frameEnded (s : State) (readBack : List LineCell) (good : Bool) : State :=
  ({ s with inputs := { s.inputs with plRxd := levelAfter readBack .running s.inputs.plRxd } } : State).endOwnFrame good

theorem State.frameEnded_of_abandoned {s : State} {readBack : List LineCell} {good : Bool}
    (abandoned : s.line.txAbandoned = true) :
    s.frameEnded readBack good =
      { s with
        inputs := { s.inputs with plRxd := levelAfter readBack .running s.inputs.plRxd }
        line := (s.line.endFrame (Config.txdAfterFrame s.free)).clearBuffer
        free := s.free + 1 } := by
  rw [State.frameEnded, State.endOwnFrame, if_pos (by exact abandoned)]

theorem State.frameEnded_of_kept {s : State} {readBack : List LineCell} {good : Bool}
    (kept : s.line.txAbandoned = false) :
    s.frameEnded readBack good =
      { s with
        inputs := { s.inputs with plRxd := levelAfter readBack .running s.inputs.plRxd }
        line := (s.line.endFrame (Config.txdAfterFrame s.free)).exchange good
        free := s.free + 1 } := by
  rw [State.frameEnded, State.endOwnFrame, if_neg (by simp [kept])]

theorem exec_ownFrameEnd {s : State} (readBack : List LineCell) (held : s.resetHeld = false)
    (sending : s.line.txActive = true) :
    exec (.ownFrameEnd readBack) s =
      .next (if s.line.txAbandoned then s.frameEnded readBack (echoGood s.line.pending readBack)
      else if echoGood s.line.pending readBack then
        (s.frameEnded readBack (echoGood s.line.pending readBack)).takeGoodEcho
      else (s.frameEnded readBack (echoGood s.line.pending readBack)).takeFailedEcho) := by
  rw [exec, execOwnFrameEnd, State.act_taken _ held sending]
  rfl

/-- Settles O15: an abandoned frame, a good echo and a failed echo, each by the standing. -/
theorem ownFrameEndJudgesTheEcho : Obligations.OwnFrameEndJudgesTheEcho := by
  intro readBack s held sending good k
  have judged : echoGood s.line.pending readBack = true ↔ good := echoGood_iff _ _
  rw [exec_ownFrameEnd readBack held sending]
  cases abandoned : s.line.txAbandoned with
  | true =>
    rw [if_pos rfl, State.frameEnded_of_abandoned abandoned]
    exact ⟨_, rfl, rfl, rfl, fun _ => ⟨rfl, rfl, rfl, rfl, rfl⟩, nofun, nofun, nofun, nofun, nofun, nofun, nofun,
      nofun, nofun, fun _ => ⟨rfl, rfl⟩, rfl⟩
  | false =>
    rw [if_neg nofun]
    by_cases isGood : good
    · have echo := judged.2 isGood
      obtain ⟨standing, notices, frame, backoff, first, second, other⟩ :=
        (s.frameEnded readBack true).takeGoodEcho_spec
      rw [State.frameEnded_of_kept abandoned] at backoff first second other
      rw [echo, if_pos rfl, frame, State.frameEnded_of_kept abandoned]
      refine ⟨_, rfl, rfl, rfl, nofun, fun _ => ⟨rfl, rfl, fun _ => rfl, fun bad => absurd isGood bad⟩,
        fun _ _ => backoff, fun _ _ => first, fun _ _ => second, fun _ bad => absurd isGood bad,
        fun _ bad => absurd isGood bad,
        fun _ bad => absurd isGood bad, fun _ bad => absurd isGood bad, fun _ _ => other, fun silent => ?_, rfl⟩
      refine other (fun state => ?_) fun state => ?_
      · exact absurd (silent.symm.trans (congrArg Standing.transmitting state)) nofun
      · exact absurd (silent.symm.trans (congrArg Standing.transmitting state)) nofun
    · have echo : echoGood s.line.pending readBack = false := Bool.eq_false_iff.2 fun h => isGood (judged.1 h)
      obtain ⟨standing, notices, frame, active, backoff, sixth, isolated, silent⟩ :=
        (s.frameEnded readBack false).takeFailedEcho_spec
      rw [State.frameEnded_of_kept abandoned] at active backoff sixth isolated silent
      rw [echo, if_neg nofun, frame, State.frameEnded_of_kept abandoned]
      exact ⟨_, rfl, rfl, rfl, nofun, fun _ => ⟨rfl, rfl, fun ok => absurd ok isGood, fun _ => rfl⟩,
        fun _ ok => absurd ok isGood, fun _ ok => absurd ok isGood, fun _ ok => absurd ok isGood, fun _ _ => active,
        fun _ _ => backoff, fun _ _ => sixth, fun _ _ => isolated, fun _ ok => absurd ok isGood, silent, rfl⟩

end Sys2Proof.Machine
end

section
-- Proofs elaborated in order keep the number of threads within what the check's memory limit allows.
set_option Elab.async false
/-! The frame receiver (R1, R2, R5 to R9): what a step of a burst does, by the bits that have come in. -/

namespace Sys2Proof.Machine

/-! ### One step of a burst (R2) -/

/-- The state with the level of PL_RXD after the cells. -/
def State.heard (s : State) (cells : List LineCell) (burst : BurstEnd) : State :=
  { s with inputs := { s.inputs with plRxd := levelAfter cells burst s.inputs.plRxd } }

theorem exec_claimFrameEvaluated {s : State} {cells : List LineCell} (burst : BurstEnd) (taking : s.receiving cells) :
    exec (.claimFrameEvaluated cells burst) s = .next ((s.heard cells burst).receive cells burst) := by
  obtain ⟨held, receives⟩ := taking
  rw [exec, execClaimFrameEvaluated, State.act_taken _ held receives]
  rfl

/-- The burst ends with these cells. -/
abbrev BurstEnds (cells : List LineCell) (burst : BurstEnd) : Prop := hasViolation cells = true ∨ burst = .idle

theorem burstEnds_iff (cells : List LineCell) (burst : BurstEnd) :
    (hasViolation cells || burst == .idle) = true ↔ BurstEnds cells burst := by
  simp

section Receive

variable {s : State} {cells : List LineCell} {burst : BurstEnd}

theorem State.receive_noise (short : (s.burstBits cells).length < 8) (ends : BurstEnds cells burst) :
    s.receive cells burst = { s with line := s.line.rxEnter .idle } := by
  simp only [State.receive, if_pos short, if_pos ((burstEnds_iff _ _).2 ends)]

theorem State.receive_preamble (short : (s.burstBits cells).length < 8) (runs : ¬BurstEnds cells burst) :
    s.receive cells burst = { s with line := { s.line with rx := { s.line.rx with bits := s.burstBits cells } } } := by
  simp only [State.receive, if_pos short, if_neg fun h => runs ((burstEnds_iff _ _).1 h)]

theorem State.receive_wrong (long : ¬(s.burstBits cells).length < 8)
    (wrong : (s.burstBits cells).take 8 ≠ preambleBits) :
    s.receive cells burst = { s with line := (s.line.rxEnter .drain).countError } := by
  simp only [State.receive, if_neg long, if_pos wrong]

theorem drop_eight_lt_iff {bits : List Bool} (long : ¬bits.length < 8) :
    (bits.drop 8).length < 192 ↔ bits.length < 200 := by
  rw [List.length_drop]
  omega

theorem State.receive_cut (long : ¬(s.burstBits cells).length < 8) (right : (s.burstBits cells).take 8 = preambleBits)
    (part : (s.burstBits cells).length < 200) (ends : BurstEnds cells burst) :
    s.receive cells burst =
      { s with line := (s.line.rxEnter (if burst = .idle then .idle else .drain)).countError } := by
  simp only [State.receive, if_neg long, if_neg (not_not.2 right), if_pos ((drop_eight_lt_iff long).2 part),
    if_pos ((burstEnds_iff _ _).2 ends)]

theorem State.receive_data (long : ¬(s.burstBits cells).length < 8) (right : (s.burstBits cells).take 8 = preambleBits)
    (part : (s.burstBits cells).length < 200) (runs : ¬BurstEnds cells burst) :
    s.receive cells burst =
      { s with line := { s.line with rx := { s.line.rx with state := .data, bits := s.burstBits cells } } } := by
  simp only [State.receive, if_neg long, if_neg (not_not.2 right), if_pos ((drop_eight_lt_iff long).2 part),
    if_neg fun h => runs ((burstEnds_iff _ _).1 h)]

theorem State.receive_frame (whole : ¬(s.burstBits cells).length < 200)
    (right : (s.burstBits cells).take 8 = preambleBits) :
    s.receive cells burst =
      ({ s with line := s.line.rxEnter .drain } : State).evaluateFrame (((s.burstBits cells).drop 8).take 192) := by
  have long : ¬(s.burstBits cells).length < 8 := fun short => whole (Nat.lt_trans short (by decide))
  simp only [State.receive, if_neg long, if_neg (not_not.2 right),
    if_neg fun part => whole ((drop_eight_lt_iff long).1 part)]

end Receive

theorem State.evaluateFrame_invalid {s : State} {d : List Bool} (invalid : frameValid d = false) :
    s.evaluateFrame d = { s with line := s.line.countError } := by
  rw [State.evaluateFrame, if_pos (by simp [invalid])]

/-! ### Valid frames (R5) -/

theorem kindOfCode_isSome_iff (n : Nat) : (kindOfCode n).isSome = true ↔ 1 ≤ n ∧ n ≤ 5 := by
  obtain _ | _ | _ | _ | _ | _ | n := n <;> simp [kindOfCode]

theorem frameValid_iff (d : List Bool) :
    frameValid d = true ↔
      (crc16 (d.take 176)).toNat = fieldOf d 176 16 ∧ fieldOf d 0 6 ≤ 35 ∧ fieldOf d 6 3 ≤ 5
      ∧ 1 ≤ fieldOf d 9 4 ∧ fieldOf d 9 4 ≤ 5 := by
  simp only [frameValid, checkMatches, Bool.and_eq_true, decide_eq_true_eq, beq_iff_eq, kindOfCode_isSome_iff,
    and_assoc]

/-! ### Bursts and frames -/

/-- Settles O9: a burst by its length, its preamble and its end, and the conditions of a valid frame. -/
theorem receiverTakesBurstsAndCountsInvalidOnes : Obligations.ReceiverTakesBurstsAndCountsInvalidOnes := by
  refine ⟨⟨fun transition s held idle => ?start, fun s held drain => ?idle⟩, ?ends, ?goesOn, frameValid_iff⟩
  case start =>
    rw [exec, execFrameStart, State.act_taken _ held (by rw [idle]; rfl)]
    rfl
  case idle =>
    rw [exec, execLineIdle, State.act_taken _ held (by rw [drain]; rfl)]
    rfl
  case ends =>
    intro cells burst s taking bits ends which
    rw [exec_claimFrameEvaluated burst taking]
    by_cases short : bits.length < 8
    · have ended : BurstEnds cells burst := by
        obtain ⟨-, ended⟩ | ⟨long, -⟩ | ⟨long, -⟩ | ⟨long, -⟩ := which
        · exact ended
        all_goals omega
      rw [State.receive_noise (by exact short) ended, if_pos short, if_pos short]
      exact ⟨_, rfl, rfl, rfl, rfl, rfl⟩
    · rw [if_neg short, if_neg short]
      by_cases right : bits.take 8 = preambleBits
      · by_cases part : bits.length < 200
        · have ended : BurstEnds cells burst := by
            obtain ⟨short', -⟩ | ⟨-, wrong⟩ | ⟨-, -, ended⟩ | ⟨long, -⟩ := which
            · exact absurd short' short
            · exact absurd right wrong
            · exact ended
            · omega
          rw [State.receive_cut (by exact short) (by exact right) (by exact part) ended]
          refine ⟨_, rfl, rfl, ?_, rfl, rfl⟩
          by_cases idle : burst = .idle
          · rw [if_pos idle]
            exact (if_pos ⟨right, part, idle⟩).symm
          · rw [if_neg idle]
            exact (if_neg fun ⟨_, _, isIdle⟩ => idle isIdle).symm
        · have invalid : frameValid ((bits.drop 8).take 192) = false := by
            obtain ⟨short', -⟩ | ⟨-, wrong⟩ | ⟨-, part', -⟩ | ⟨-, invalid⟩ := which
            · exact absurd short' short
            · exact absurd right wrong
            · exact absurd part' part
            · exact invalid
          rw [State.receive_frame (by exact part) (by exact right), State.evaluateFrame_invalid (by exact invalid),
            if_neg fun h => part h.2.1]
          exact ⟨_, rfl, rfl, rfl, rfl, rfl⟩
      · rw [State.receive_wrong (by exact short) (by exact right), if_neg fun h => right h.1]
        exact ⟨_, rfl, rfl, rfl, rfl, rfl⟩
  case goesOn =>
    intro cells s taking clean bits which
    have runs : ¬BurstEnds cells .running := by simp [clean]
    rw [exec_claimFrameEvaluated .running taking]
    by_cases short : bits.length < 8
    · rw [State.receive_preamble (by exact short) runs, if_pos short]
      exact ⟨_, rfl, rfl⟩
    · obtain short' | ⟨part, right⟩ := which
      · exact absurd short' short
      · rw [State.receive_data (by exact short) (by exact right) (by exact part) runs, if_neg short]
        exact ⟨_, rfl, rfl⟩

end Sys2Proof.Machine
end

section
-- Proofs elaborated in order keep the number of threads within what the check's memory limit allows.
set_option Elab.async false
/-! Valid frames (R7 to R9, R25 to R27, R33, R34, R42, R49, R51): what the evaluation does by position and pad, and
what a conflict does to the session and the sequencer. -/

namespace Sys2Proof.Machine

/-! ### The evaluation of a valid frame -/

/-- The state in which a whole frame is evaluated: the receiver has left the burst. -/
def State.evaluating (s : State) (cells : List LineCell) (burst : BurstEnd) : State :=
  { s with
    inputs := { s.inputs with plRxd := levelAfter cells burst s.inputs.plRxd }
    line := s.line.rxEnter .drain }

theorem exec_claimFrameEvaluated_completes {s : State} {cells : List LineCell} {d : List Bool} (burst : BurstEnd)
    (completes : s.completes cells d) :
    exec (.claimFrameEvaluated cells burst) s = .next ((s.evaluating cells burst).evaluateFrame d) := by
  obtain ⟨taking, whole, length⟩ := completes
  have size : ¬(s.burstBits cells).length < 200 := by
    rw [whole, List.length_append, length]
    decide
  have data : ((s.burstBits cells).drop 8).take 192 = d := by
    rw [whole, show (preambleBits ++ d).drop 8 = d from List.drop_left' rfl, List.take_of_length_le length.le]
  rw [exec_claimFrameEvaluated burst taking,
    State.receive_frame (by exact size) (by exact (congrArg (List.take 8) whole).trans (List.take_left' rfl))]
  exact congrArg (fun d => Host.Outcome.next ((s.evaluating cells burst).evaluateFrame d)) data

section Evaluate

variable {s : State} {d : List Bool} (valid : frameValid d = true)

include valid

theorem State.evaluateFrame_early (early : s.configured = false) : s.evaluateFrame d = s := by
  rw [State.evaluateFrame, if_neg (by simp [valid]), if_pos (by simp [early])]

theorem State.evaluateFrame_discarded (configured : s.configured = true)
    (discards : s.timer.keepsFrame s.line.rx.start = false) :
    s.evaluateFrame d = { s with line := s.line.countError } := by
  rw [State.evaluateFrame, if_neg (by simp [valid]), if_neg (by simp [configured]), if_pos (by simp [discards])]

theorem State.evaluateFrame_kept (configured : s.configured = true)
    (keeps : s.timer.keepsFrame s.line.rx.start = true) :
    s.evaluateFrame d = (s.timeFrame (claimOfBits d).pad).handClaim (normalise (claimOfBits d)) := by
  rw [State.evaluateFrame, if_neg (by simp [valid]), if_neg (by simp [configured]), if_neg (by simp [keeps])]
  rfl

end Evaluate

/-! ### The position of a frame (R25) -/

theorem Timer.keepsFrame_of_inside {t : Timer} {start : Int}
    (inside : t.mode = .running → t.roundStart ≤ start ∧ start < t.roundStart + 72000) :
    t.keepsFrame start = true := by
  unfold Timer.keepsFrame
  cases mode : t.mode with
  | running =>
    obtain ⟨from_, until_⟩ := inside mode
    simp only [if_neg (Int.not_lt.2 from_), decide_eq_true_eq]
    exact until_
  | halted => rfl
  | search => rfl
  | realign => rfl

theorem Timer.keepsFrame_of_outside {t : Timer} {start : Int} (running : t.mode = .running)
    (outside : t.roundStart + 72000 ≤ start
      ∨ (start < t.roundStart ∧ ∃ b, t.lastBoundary = some b ∧ start < b)) : t.keepsFrame start = false := by
  unfold Timer.keepsFrame
  simp only [running]
  obtain late | ⟨early, b, boundary, before⟩ := outside
  · rw [if_neg (by omega)]
    exact decide_eq_false (Int.not_lt.2 late)
  · simp only [if_pos early, boundary, if_pos before]

/-! ### What a kept frame does to the timer (R26, R27, R33, R34) -/

theorem Timer.takeFrame_of_search {t : Timer} {own : Option Nat} {pad : Nat} {start : Int} (search : t.mode = .search) :
    t.takeFrame own pad start =
      { t with
        mode := .running, slot := some pad, periodStart := start, nextPeriod := start + 2000,
        roundStart := start - 2000 * (pad : Int), reference := none, misaligned := 0, silence := 0, target := none,
        inGap := false, lastBoundary := none } := by
  have slots : ((pad * Config.slotUnits : Nat) : Int) = 2000 * (pad : Int) := by
    simp only [Config.slotUnits]
    push_cast
    omega
  simp only [Timer.takeFrame, search, Timer.clockSet, slots]
  rfl

theorem Timer.takeFrame_of_unfixed {t : Timer} {own : Option Nat} {pad : Nat} {start : Int}
    (realign : t.mode = .realign) (unfixed : t.target = none) :
    ∃ r : Int, t.takeFrame own pad start = { t with target := some r }
      ∧ t.roundStart + 80000 ≤ r ∧ r < t.roundStart + 160000
      ∧ ∃ k : Int, r = start - 2000 * (pad : Int) + 80000 * k := by
  obtain ⟨reaches, before, multiple⟩ := t.targetFor_spec pad start
  have boundary : t.oldBoundary = t.roundStart + 80000 := rfl
  refine ⟨t.targetFor pad start, ?_, boundary ▸ reaches, by omega, multiple⟩
  simp only [Timer.takeFrame, realign, unfixed]
  rfl

theorem Timer.takeFrame_of_fixed {t : Timer} {own : Option Nat} {pad : Nat} {start : Int}
    (realign : t.mode = .realign) (fixed : t.target ≠ none) : t.takeFrame own pad start = t := by
  simp only [Timer.takeFrame, realign]
  exact if_neg (by simpa using fixed)

theorem betterReference_eq (old : Option Reference) (new : Reference) :
    betterReference old new = if ∀ r, old = some r → new.pad < r.pad then some new else old := by
  cases old with
  | none => simp [betterReference]
  | some r => simp [betterReference]

theorem Timer.takeFrame_of_running {t : Timer} {own pad : Nat} {start : Int} (running : t.mode = .running) :
    t.takeFrame (some own) pad start =
      if pad < own ∧ (∀ r, t.reference = some r → pad < r.pad) then
        { t with reference := some { pad := pad, offset := start - (t.roundStart + 2000 * (pad : Int)) } }
      else t := by
  have slots : t.offsetOf pad start = start - (t.roundStart + 2000 * (pad : Int)) := by
    simp only [Timer.offsetOf, Config.slotUnits]
    push_cast
    omega
  simp only [Timer.takeFrame, running, betterReference_eq, slots]
  by_cases lower : pad < own
  · by_cases better : ∀ r, t.reference = some r → pad < r.pad
    · rw [if_pos lower, if_pos better, if_pos ⟨lower, better⟩]
    · rw [if_pos lower, if_neg better, if_neg fun both => better both.2, ← running]
  · rw [if_neg lower, if_neg fun both => lower both.1]

/-! ### A claim of another pad -/

/-- A claim of another pad goes to the receive register with a request of the view store (R8). -/
theorem State.handClaim_of_peer {s : State} {c : Claim} (peer : some c.pad ≠ s.standing.pad) :
    s.handClaim c =
      { s with line := { s.line with register := some c }, store := s.store.request .claimWrite } := if_neg peer

theorem State.timeFrame_eq (s : State) (pad : Nat) :
    s.timeFrame pad =
      { s with
        timer := s.timer.takeFrame s.standing.pad pad s.line.rx.start
        line := { s.line with echo := if s.timer.mode = .search then .notSent else s.line.echo } } := by
  unfold State.timeFrame
  by_cases search : s.timer.mode = .search
  · rw [if_pos search, if_pos search]
    rfl
  · rw [if_neg search, if_neg search]

/-- Settles O10: the frame is dropped, discarded, or handed on with the timer's part. -/
theorem validFrameOfAPeerIsHandedOn : Obligations.ValidFrameOfAPeerIsHandedOn := by
  intro cells burst d s completes valid peer
  rw [exec_claimFrameEvaluated_completes burst completes]
  cases configured : s.configured with
  | false =>
    rw [State.evaluateFrame_early valid (by exact configured)]
    exact ⟨_, rfl, rfl, fun _ => rfl, fun _ => ⟨rfl, rfl, rfl, rfl⟩, nofun, nofun, rfl⟩
  | true =>
    cases keeps : s.timer.keepsFrame s.line.rx.start with
    | false =>
      rw [State.evaluateFrame_discarded valid (by exact configured) (by exact keeps)]
      refine ⟨_, rfl, rfl, fun _ => rfl, nofun, fun _ _ _ => ⟨rfl, rfl, rfl, rfl⟩, fun _ inside => ?_, rfl⟩
      exact absurd (keeps.symm.trans (Timer.keepsFrame_of_inside inside)) nofun
    | true =>
      rw [State.evaluateFrame_kept valid (by exact configured) (by exact keeps), State.timeFrame_eq,
        State.handClaim_of_peer (by exact peer)]
      refine ⟨_, rfl, rfl, fun other => ?_, nofun, fun _ running outside => ?_, fun _ _ => ?_, rfl⟩
      · obtain fresh | other := other
        · cases fresh
        · exact if_neg other
      · exact absurd (keeps.symm.trans (Timer.keepsFrame_of_outside running outside)) nofun
      · refine ⟨rfl, rfl, rfl, fun search => ⟨Timer.takeFrame_of_search search, if_pos search⟩,
          Timer.takeFrame_of_unfixed, Timer.takeFrame_of_fixed, fun own running known => ?_⟩
        exact (congrArg (fun o => s.timer.takeFrame o _ _) known).trans (Timer.takeFrame_of_running running)

/-! ### A conflict (R51, R147, R162) -/

theorem conflictTarget_plain {st : SessionState} :
    conflictTarget st ≠ .connected ∧ conflictTarget st ≠ .intent
      ∧ (conflictTarget st = .fault → st = .fault) := by
  cases st <;> simp [conflictTarget]

/-- The notices of a conflict: CONFLICT with the identity that caused it, then the session's (R51, R164). -/
def State.conflictNotices (s : State) (foreign : Identity) : NoticeQueue :=
  if conflictTarget s.session.state = s.session.state then
    s.notices.push (s.notice .conflict s.standing.pad (some foreign.toNat))
  else
    (s.notices.push (s.notice .conflict s.standing.pad (some foreign.toNat))).push
      (s.sessionNotice (conflictTarget s.session.state) .conflict)

theorem State.enterConflict_eq (s : State) (foreign : Identity) :
    s.enterConflict foreign =
      { s with
        standing := s.standing.enter .conflict
        session := { s.session with state := conflictTarget s.session.state, overdrawRun := 0 }
        seq := s.seq.requestOpen .forced
        turn := s.turn.bar
        due := { s.due with overdraw := none, reportLost := none }
        notices := s.conflictNotices foreign } := by
  obtain ⟨notConnected, notIntent, fault⟩ := @conflictTarget_plain s.session.state
  have held : ¬(conflictTarget s.session.state = .fault ∧ s.session.state ≠ .fault) :=
    fun ⟨target, other⟩ => other (fault target)
  simp only [State.enterConflict, State.signalConflict, State.setSession, State.raise, State.conflictNotices,
    notConnected, notIntent, held, false_and, if_false, eq_comm (a := s.session.state)]
  rfl

/-! ### A foreign claim for the own pad -/

theorem State.takeOwnPadClaim_of_same {s : State} {claimed : Identity} (same : claimed = s.identity) :
    s.takeOwnPadClaim claimed = s := if_pos same

theorem State.takeOwnPadClaim_of_listen {s : State} {claimed : Identity} (foreign : claimed ≠ s.identity)
    (listens : s.standing.state = .listen) :
    s.takeOwnPadClaim claimed =
      { s with standing := { s.standing with occupant := s.standing.occupant.or (some claimed) } } :=
  (if_neg foreign).trans (if_pos listens)

theorem State.takeOwnPadClaim_of_transmitting {s : State} {claimed : Identity} (foreign : claimed ≠ s.identity)
    (transmits : s.standing.state.transmitting = true) : s.takeOwnPadClaim claimed = s.enterConflict claimed := by
  have other : s.standing.state ≠ .listen := by
    intro listens
    simp [listens, Standing.transmitting] at transmits
  exact (if_neg foreign).trans ((if_neg other).trans (if_pos transmits))

theorem State.takeOwnPadClaim_of_silent {s : State} (claimed : Identity) (other : s.standing.state ≠ .listen)
    (silent : s.standing.state.transmitting = false) : s.takeOwnPadClaim claimed = s := by
  unfold State.takeOwnPadClaim
  rw [if_neg other, silent, if_neg Bool.false_ne_true, ite_self]

theorem State.handClaim_of_own {s : State} {c : Claim} (own : some c.pad = s.standing.pad) :
    s.handClaim c = s.takeOwnPadClaim c.identity := if_pos own

/-- A claim for the own pad takes no part in alignment (R26). -/
theorem Timer.takeFrame_of_own {t : Timer} {pad : Nat} {start : Int} (running : t.mode = .running) :
    t.takeFrame (some pad) pad start = t := by
  rw [Timer.takeFrame_of_running running, if_neg fun both => Nat.lt_irrefl _ both.1]

/-- A frame for the own pad in RUNNING leaves the clock (R26). -/
theorem State.timeFrame_of_own {s : State} {pad : Nat} (running : s.timer.mode = .running)
    (own : some pad = s.standing.pad) : s.timeFrame pad = s := by
  rw [State.timeFrame_eq, ← own, Timer.takeFrame_of_own running, if_neg (by simp [running])]

theorem foreignClaim_of_running {s : State} {cells : List LineCell} {d : List Bool} (burst : BurstEnd)
    (completes : s.completes cells d) (valid : frameValid d = true) (configured : s.configured = true)
    (own : some (claimOfBits d).pad = s.standing.pad) (running : s.timer.mode = .running)
    (inside : s.timer.roundStart ≤ s.line.rx.start ∧ s.line.rx.start < s.timer.roundStart + 72000) :
    exec (.claimFrameEvaluated cells burst) s =
      .next ((s.evaluating cells burst).takeOwnPadClaim (claimOfBits d).identity) := by
  have keeps : s.timer.keepsFrame s.line.rx.start = true := Timer.keepsFrame_of_inside fun _ => inside
  rw [exec_claimFrameEvaluated_completes burst completes, State.evaluateFrame_kept valid (by exact configured)
    (by exact keeps), State.timeFrame_of_own (by exact running) (by exact own), State.handClaim_of_own (by exact own)]
  rfl

/-- Settles O11: a foreign claim for the own pad by the standing, a discarded one, and one outside RUNNING. -/
theorem foreignClaimForTheOwnPadIsAConflict : Obligations.ForeignClaimForTheOwnPadIsAConflict := by
  refine ⟨?running, ?discarded, ?timing⟩
  case running =>
    intro cells burst d s completes valid configured own running reaches before
    rw [foreignClaim_of_running burst completes valid configured own running ⟨reaches, before⟩]
    by_cases same : (claimOfBits d).identity = s.identity
    · rw [State.takeOwnPadClaim_of_same (by exact same)]
      exact ⟨_, rfl, rfl, fun _ => rfl, fun foreign => absurd same foreign, fun foreign => absurd same foreign, rfl⟩
    · by_cases listens : s.standing.state = .listen
      · rw [State.takeOwnPadClaim_of_listen (by exact same) (by exact listens)]
        refine ⟨_, rfl, rfl, fun quiet => ?_, fun _ _ => rfl, fun _ transmits => ?_, rfl⟩
        · obtain own | ⟨other, -⟩ := quiet
          · exact absurd own same
          · exact absurd listens other
        · simp [listens, Standing.transmitting] at transmits
      · cases transmits : s.standing.state.transmitting with
        | true =>
          rw [State.takeOwnPadClaim_of_transmitting (by exact same) (by exact transmits), State.enterConflict_eq]
          refine ⟨_, rfl, rfl, fun quiet => ?_, fun _ listen => absurd listen listens, fun _ _ => ?_, rfl⟩
          · obtain own | ⟨-, silent⟩ := quiet
            · exact absurd own same
            · cases silent
          · refine ⟨rfl, ?_, rfl, fun _ => ⟨rfl, rfl, rfl⟩, Seq.requestOpen_forced_of_busy,
              fun idle pre main => ?_, rfl, rfl⟩
            · change conflictTarget s.session.state = _
              cases s.session.state <;> rfl
            · exact congrArg Seq.openMode (Seq.requestOpen_of_rest _ idle pre main)
        | false =>
          rw [State.takeOwnPadClaim_of_silent _ (by exact listens) (by exact transmits)]
          exact ⟨_, rfl, rfl, fun _ => rfl, fun _ listen => absurd listen listens, nofun, rfl⟩
  case discarded =>
    intro cells burst d s completes valid configured own running outside
    rw [exec_claimFrameEvaluated_completes burst completes, State.evaluateFrame_discarded valid (by exact configured)
      (by exact Timer.keepsFrame_of_outside running outside)]
    exact ⟨_, rfl, rfl⟩
  case timing =>
    intro cells burst d s completes valid own which start
    have other : s.timer.mode ≠ .running := by
      obtain ⟨mode, -⟩ | ⟨mode, -⟩ := which <;> simp [mode]
    have configured : s.configured = true := by
      obtain ⟨-, state⟩ | ⟨-, state⟩ := which <;> simp [State.configured, state]
    have silent : s.standing.state ≠ .listen ∧ s.standing.state.transmitting = false := by
      obtain ⟨-, state⟩ | ⟨-, state⟩ := which <;> simp [state, Standing.transmitting]
    have keeps : s.timer.keepsFrame s.line.rx.start = true :=
      Timer.keepsFrame_of_inside fun running => absurd running other
    rw [exec_claimFrameEvaluated_completes burst completes, State.evaluateFrame_kept valid (by exact configured)
      (by exact keeps), State.timeFrame_eq, State.handClaim_of_own (by exact own),
      State.takeOwnPadClaim_of_silent _ (by exact silent.1) (by exact silent.2)]
    refine ⟨_, rfl, fun search => ⟨Timer.takeFrame_of_search search, if_pos search⟩, fun realign => if_neg ?_,
      Timer.takeFrame_of_unfixed, Timer.takeFrame_of_fixed, rfl⟩
    exact realign.trans_ne (by decide)

end Sys2Proof.Machine
end

section
-- Proofs elaborated in order keep the number of threads within what the check's memory limit allows.
set_option Elab.async false
/-! The round boundary (R23, R24, R30, R41, R43, R46, R50, R134, R165 to R169): the standing's part and the session's
part as single record updates, and their composition in either order (log entry 8). -/

namespace Sys2Proof.Machine

/-! ### The standing's part without a conflict -/

/-- LISTEN ends in RESYNC at this boundary (R43). -/
abbrev State.Resyncs (s : State) : Prop := s.standing.state = .listen ∧ 2 ≤ s.timer.misaligned

/-- The standing after a boundary that brings no conflict (R41, R43, R46). -/
def State.calmStanding (s : State) : StandingCtl :=
  if s.standing.state = .listen then
    s.standing.countSkipped.enter (if 2 ≤ s.timer.misaligned then .resync else .active)
  else if s.standing.state = .acquire ∧ s.timer.mode = .running then s.standing.countSkipped.enterListen
  else s.standing.countSkipped

/-- The timer after a boundary that brings no conflict (R34, R50). -/
def State.calmTimer (s : State) : Timer :=
  if s.Resyncs then { s.timer with mode := .realign, misaligned := 0, silence := 0, target := none } else s.timer

/-- The notices after the standing's part of a boundary that brings no conflict (R50). -/
def State.calmNotices (s : State) (q : NoticeQueue) : NoticeQueue :=
  if s.Resyncs then q.push (s.notice .resync s.standing.pad none) else q

theorem State.standingBoundary_calm {s : State} (calm : s.standing.state ≠ .listen ∨ s.standing.occupant = none) :
    s.standingBoundary =
      { s with
        standing := s.calmStanding
        timer := s.calmTimer
        due := { s.due with resync := s.due.resync || s.resyncDue }
        notices := s.calmNotices s.notices } := by
  cases state : s.standing.state with
  | listen =>
    have unmarked : s.standing.occupant = none := by simpa [state] using calm
    simp only [State.standingBoundary, state, State.endListen, StandingCtl.countSkipped, unmarked, State.calmStanding,
      State.calmTimer, State.calmNotices, State.Resyncs, true_and, if_true]
    by_cases late : 2 ≤ s.timer.misaligned
    · simp only [if_pos late]
      rfl
    · simp only [if_neg late]
  | acquire =>
    simp only [State.standingBoundary, state, State.calmStanding, State.calmTimer, State.calmNotices, State.Resyncs,
      reduceCtorEq, false_and, true_and, if_false]
  | _ =>
    simp only [State.standingBoundary, state, State.calmStanding, State.calmTimer, State.calmNotices, State.Resyncs,
      reduceCtorEq, false_and, if_false]

theorem State.standingBoundary_conflict {s : State} {id : Identity} (listens : s.standing.state = .listen)
    (marked : s.standing.occupant = some id) :
    s.standingBoundary =
      ({ s with standing := s.standing.countSkipped } : State).enterConflict id := by
  have quiet : s.resyncDue = false := by simp [State.resyncDue, listens, Standing.transmitting]
  simp only [State.standingBoundary, listens, State.endListen, StandingCtl.countSkipped, marked, quiet, Bool.or_false]

/-! ### The session's part -/

/-- The session's counts and record after the boundary, before a stop. -/
def State.countedSession (s : State) : Session := s.session.atBoundary s.applyUnit.applied

/-- The boundary completes the session (R169). -/
abbrev State.Completes (s : State) : Prop := s.countedSession.stopCause = some .complete

/-- The session after the boundary (R165, R166, R168, R169). -/
def State.nextSession (s : State) : Session :=
  if s.Completes then { s.countedSession with state := .stopping, overdrawRun := 0 } else s.countedSession

/-- The sequencer after the session's part of the boundary (R147, R169). -/
def State.nextSeq (s : State) : Seq := if s.Completes then s.seq.requestOpen .normal else s.seq

/-- What the session's part makes due (R169). -/
def State.nextDue (s : State) : Due :=
  { s.due with
    overdraw := if s.countedSession.stopCause = some .overdraw then some s.countedSession.lastMeasured else none
    reportLost := if s.countedSession.stopCause = some .reportLost then some s.countedSession.reportAge else none }

/-- The notices after the session's part of the boundary. -/
def State.nextNotices (s : State) (q : NoticeQueue) : NoticeQueue :=
  if s.Completes then q.push (s.sessionNotice .stopping .complete) else q

theorem Session.stopCause_of_not_connected {q : Session} (other : q.state ≠ .connected) : q.stopCause = none :=
  if_pos other

theorem State.sessionBoundary_eq (s : State) :
    s.sessionBoundary =
      { s with
        session := s.nextSession
        turn := { s.turn with intentAge := s.nextIntentAge }
        seq := s.nextSeq
        due := s.nextDue
        notices := s.nextNotices s.notices } := by
  unfold State.sessionBoundary State.nextSession State.nextSeq State.nextNotices
  by_cases completes : s.Completes
  · have connected : s.countedSession.state = .connected := by
      by_contra other
      exact absurd (completes.symm.trans (Session.stopCause_of_not_connected other)) nofun
    have due : s.nextDue = { s.due with overdraw := none, reportLost := none } := by
      rw [State.nextDue, completes]
      rfl
    simp only [if_pos completes, due]
    refine (if_pos completes).trans ?_
    rw [State.setSession_rest (by exact connected.trans_ne (by decide)) (by decide)]
    rfl
  · simp only [if_neg completes]
    exact if_neg completes


/-! ### Both parts in either order (log entry 8) -/

theorem State.standingAndSession_cases (s : State) :
    s.standingAndSession = ({ s with free := s.free + 1 } : State).standingBoundary.sessionBoundary
      ∨ s.standingAndSession = ({ s with free := s.free + 1 } : State).sessionBoundary.standingBoundary := by
  unfold State.standingAndSession
  split
  · exact .inl rfl
  · exact .inr rfl

theorem State.calmTimer_roundCounter (s : State) : s.calmTimer.roundCounter = s.timer.roundCounter := by
  unfold State.calmTimer
  split <;> rfl

/-- The notices of a boundary that brings no conflict: COMPLETE and RESYNC may come in either order. -/
def State.CalmNotices (s : State) (q : NoticeQueue) : Prop :=
  (¬s.Completes → q = s.calmNotices s.notices)
    ∧ (s.Completes → ¬s.Resyncs → q = s.notices.push (s.sessionNotice .stopping .complete))
    ∧ (s.Completes → s.Resyncs →
      q = (s.notices.push (s.notice .resync s.standing.pad none)).push (s.sessionNotice .stopping .complete)
        ∨ q = (s.notices.push (s.sessionNotice .stopping .complete)).push (s.notice .resync s.standing.pad none))

theorem State.calmNotices_first (s : State) : s.CalmNotices (s.nextNotices (s.calmNotices s.notices)) := by
  refine ⟨fun goesOn => if_neg goesOn, fun completes stays => ?_, fun completes resyncs => .inl ?_⟩
  · rw [State.nextNotices, State.calmNotices, if_pos completes, if_neg stays]
  · rw [State.nextNotices, State.calmNotices, if_pos completes, if_pos resyncs]

theorem State.calmNotices_second (s : State) : s.CalmNotices (s.calmNotices (s.nextNotices s.notices)) := by
  refine ⟨fun goesOn => ?_, fun completes stays => ?_, fun completes resyncs => .inr ?_⟩
  · rw [State.nextNotices, if_neg goesOn]
  · rw [State.nextNotices, State.calmNotices, if_pos completes, if_neg stays]
  · rw [State.nextNotices, State.calmNotices, if_pos completes, if_pos resyncs]

theorem State.standingAndSession_calm {s : State} (calm : s.standing.state ≠ .listen ∨ s.standing.occupant = none) :
    ∃ notices, s.CalmNotices notices ∧
      s.standingAndSession =
        { s with
          standing := s.calmStanding
          timer := s.calmTimer
          session := s.nextSession
          turn := { s.turn with intentAge := s.nextIntentAge }
          seq := s.nextSeq
          due := { s.nextDue with resync := s.due.resync || s.resyncDue }
          notices
          free := s.free + 1 } := by
  obtain order | order := s.standingAndSession_cases
  · refine ⟨_, s.calmNotices_first, ?_⟩
    rw [order, State.standingBoundary_calm (by exact calm), State.sessionBoundary_eq]
    simp only [State.nextNotices, State.sessionNotice, State.calmTimer_roundCounter]
    rfl
  · refine ⟨_, s.calmNotices_second, ?_⟩
    rw [order, State.sessionBoundary_eq, State.standingBoundary_calm (by exact calm)]
    rfl


/-! ### A boundary that brings a conflict (R43, R51) -/

/-- A conflict keeps the session among those in which energy is integrated, or out of them (R162, R166). -/
theorem conflictTarget_integrates (st : SessionState) : (conflictTarget st).integrates = st.integrates := by
  cases st <;> rfl

/-- The session's counts do not depend on whether the conflict came before them. -/
theorem Session.atBoundary_conflict (q : Session) (applied : Nat) :
    ({ q with state := conflictTarget q.state, overdrawRun := 0 } : Session).atBoundary applied =
      { q.atBoundary applied with state := conflictTarget q.state, overdrawRun := 0 } := by
  simp only [Session.atBoundary, Session.nextAge, conflictTarget_integrates, conflictTarget_plain.1, if_false]
  rfl

theorem conflictTarget_nextSession (s : State) :
    conflictTarget s.nextSession.state = conflictTarget s.session.state := by
  unfold State.nextSession
  split
  next completes =>
    have connected : s.session.state = .connected := by
      by_contra other
      exact absurd (completes.symm.trans (Session.stopCause_of_not_connected other)) nofun
    rw [connected]
    rfl
  · rfl

/-- A session that completes is CONNECTED and needs no more energy (R169). -/
theorem State.completes_spec {s : State} (completes : s.Completes) :
    s.session.state = .connected ∧ ∃ r, s.countedSession.record = some r ∧ r.energyNeeded = 0 := by
  have connected : s.session.state = .connected := by
    by_contra other
    exact absurd (completes.symm.trans (Session.stopCause_of_not_connected other)) nofun
  refine ⟨connected, ?_⟩
  unfold State.Completes Session.stopCause at completes
  have needed : s.countedSession.noEnergyNeeded = true := by
    split_ifs at completes <;> simp_all
  unfold Session.noEnergyNeeded at needed
  split at needed
  next r record => exact ⟨r, record, by simpa using needed⟩
  · cases needed

/-- The notices of a boundary that brings a conflict: a COMPLETE of the same boundary may come first, and then the
session has nothing left to stop. -/
def State.ConflictNotices (s : State) (id : Identity) (q : NoticeQueue) : Prop :=
  q = s.conflictNotices id
    ∨ (s.Completes ∧ q = (s.notices.push (s.sessionNotice .stopping .complete)).push
        (s.notice .conflict s.standing.pad (some id.toNat)))

/-- The open mode after a boundary that brings a conflict (R147). -/
def State.ConflictMode (s : State) (m : OpenMode) : Prop :=
  (s.seq.phase ≠ .idle → m = .forced)
    ∧ (s.seq.phase = .idle → s.seq.preDrive = false → s.seq.mainDrive = false → m = s.seq.openMode)

theorem State.conflictMode_first (s : State) : s.ConflictMode (s.seq.requestOpen .forced).openMode :=
  ⟨Seq.requestOpen_forced_of_busy,
    fun idle pre main => congrArg Seq.openMode (Seq.requestOpen_of_rest _ idle pre main)⟩

/-- The session's part writes the open mode of the sequencer alone. -/
theorem State.nextSeq_frame (s : State) : s.nextSeq = { s.seq with openMode := s.nextSeq.openMode } := by
  unfold State.nextSeq
  split <;> rfl

theorem State.nextSeq_of_rest {s : State} (idle : s.seq.phase = .idle) (pre : s.seq.preDrive = false)
    (main : s.seq.mainDrive = false) : s.nextSeq = s.seq := by
  unfold State.nextSeq
  rw [Seq.requestOpen_of_rest _ idle pre main, ite_self]

theorem State.conflictMode_second (s : State) : s.ConflictMode (s.nextSeq.requestOpen .forced).openMode := by
  refine ⟨fun busy => Seq.requestOpen_forced_of_busy ?_, fun idle pre main => ?_⟩
  · rw [s.nextSeq_frame]
    exact busy
  · rw [State.nextSeq_of_rest idle pre main, Seq.requestOpen_of_rest _ idle pre main]

theorem State.conflictNotices_second (s : State) (id : Identity) :
    s.ConflictNotices id
      (({ s with session := s.nextSession, notices := s.nextNotices s.notices } : State).conflictNotices id) := by
  by_cases completes : s.Completes
  · refine .inr ⟨completes, ?_⟩
    have stopping : s.nextSession.state = .stopping := by
      rw [State.nextSession, if_pos completes]
    simp only [State.conflictNotices, stopping, State.nextNotices, if_pos completes]
    rfl
  · refine .inl ?_
    have state : s.nextSession.state = s.session.state := by
      rw [State.nextSession, if_neg completes]
      rfl
    simp only [State.conflictNotices, state, State.nextNotices, if_neg completes]

/-- The session's part outside CONNECTED stops nothing. -/
theorem State.sessionBoundary_of_not_connected {s : State} (other : s.session.state ≠ .connected) :
    s.sessionBoundary =
      { s with
        session := s.countedSession
        turn := { s.turn with intentAge := s.nextIntentAge }
        due := { s.due with overdraw := none, reportLost := none } } := by
  have none : s.countedSession.stopCause = none := Session.stopCause_of_not_connected other
  have goesOn : ¬s.Completes := fun completes => absurd (completes.symm.trans none) nofun
  rw [State.sessionBoundary_eq, State.nextSession, State.nextSeq, State.nextNotices, if_neg goesOn,
    if_neg goesOn, if_neg goesOn, State.nextDue, none]
  rfl

theorem State.nextIntentAge_of_other {s : State} (other : s.session.state ≠ .intent) :
    s.nextIntentAge = s.turn.intentAge := if_neg fun both => other both.1

/-- A conflict after the session's part finds the session as one before it would leave it. -/
theorem State.nextSession_conflict (s : State) :
    ({ s.nextSession with state := conflictTarget s.nextSession.state, overdrawRun := 0 } : Session) =
      { s.countedSession with state := conflictTarget s.session.state, overdrawRun := 0 } := by
  rw [conflictTarget_nextSession]
  unfold State.nextSession
  split <;> rfl

theorem State.standingAndSession_conflict {s : State} {id : Identity} (listens : s.standing.state = .listen)
    (marked : s.standing.occupant = some id) :
    ∃ age mode notices,
      (age = s.turn.intentAge ∨ age = s.nextIntentAge) ∧ s.ConflictMode mode ∧ s.ConflictNotices id notices ∧
      s.standingAndSession =
        { s with
          standing := s.standing.countSkipped.enter .conflict
          session :=
            { s.countedSession with state := conflictTarget s.session.state, overdrawRun := 0 }
          turn := { s.turn.bar with intentAge := age }
          seq := { s.seq with openMode := mode }
          due := { s.due with overdraw := none, reportLost := none }
          notices
          free := s.free + 1 } := by
  obtain order | order := s.standingAndSession_cases
  · refine ⟨_, _, _, .inl rfl, s.conflictMode_first, .inl rfl, ?_⟩
    rw [order, State.standingBoundary_conflict (by exact listens) (by exact marked), State.enterConflict_eq,
      State.sessionBoundary_of_not_connected (by exact conflictTarget_plain.1),
      State.nextIntentAge_of_other (by exact conflictTarget_plain.2.1), State.countedSession,
      Session.atBoundary_conflict]
    rfl
  · refine ⟨_, _, _, .inr rfl, s.conflictMode_second, s.conflictNotices_second id, ?_⟩
    rw [order, State.sessionBoundary_eq, State.standingBoundary_conflict (by exact listens) (by exact marked),
      State.enterConflict_eq]
    have seq :
        s.nextSeq.requestOpen .forced = { s.seq with openMode := (s.nextSeq.requestOpen .forced).openMode } := by
      rw [s.nextSeq_frame]
      rfl
    exact congrArg₂
      (fun session seq =>
        ({ s with
          standing := s.standing.countSkipped.enter .conflict
          session
          turn := { s.turn.bar with intentAge := s.nextIntentAge }
          seq
          due := { s.due with overdraw := none, reportLost := none }
          notices := State.conflictNotices { s with session := s.nextSession, notices := s.nextNotices s.notices } id
          free := s.free + 1 } : State))
      s.nextSession_conflict seq

end Sys2Proof.Machine
end

section
-- Proofs elaborated in order keep the number of threads within what the check's memory limit allows.
set_option Elab.async false
/-! The obligations of the round boundary. -/

namespace Sys2Proof.Machine

theorem exec_roundBoundary {s : State} (held : s.resetHeld = false) (can : s.canRoundBoundary = true) :
    exec .roundBoundary s = .next s.timerBoundary.standingAndSession := by
  rw [exec, execRoundBoundary, State.act_taken _ held can]

/-! ### What either part may write -/

theorem State.calmTimer_frame (s : State) :
    ∃ mode misaligned silence target,
      s.calmTimer = { s.timer with mode, misaligned, silence, target }
        ∧ (s.standing.state ≠ .listen →
          mode = s.timer.mode ∧ target = s.timer.target ∧ silence = s.timer.silence) := by
  unfold State.calmTimer
  split
  next resyncs => exact ⟨_, _, _, _, rfl, fun other => absurd resyncs.1 other⟩
  · exact ⟨_, _, _, _, rfl, fun _ => ⟨rfl, rfl, rfl⟩⟩

theorem State.standingAndSession_frame (s : State) :
    ∃ mode misaligned silence target standing session intentAge barred openMode resync overdraw reportLost notices,
      s.standingAndSession =
        { s with
          timer := { s.timer with mode, misaligned, silence, target }
          standing, session
          turn := { s.turn with intentAge, barred }
          seq := { s.seq with openMode }
          due := { s.due with resync, overdraw, reportLost }
          notices
          free := s.free + 1 }
        ∧ (s.standing.state ≠ .listen →
          mode = s.timer.mode ∧ target = s.timer.target ∧ silence = s.timer.silence ∧ barred = s.turn.barred) := by
  by_cases calm : s.standing.state ≠ .listen ∨ s.standing.occupant = none
  · obtain ⟨notices, -, both⟩ := State.standingAndSession_calm calm
    obtain ⟨mode, misaligned, silence, target, timer, quiet⟩ := s.calmTimer_frame
    rw [timer, s.nextSeq_frame] at both
    refine ⟨_, _, _, _, _, _, _, _, _, _, _, _, _, both, fun other => ?_⟩
    obtain ⟨sameMode, sameTarget, sameSilence⟩ := quiet other
    exact ⟨sameMode, sameTarget, sameSilence, rfl⟩
  · obtain ⟨listens, marked⟩ := not_or.1 calm
    obtain ⟨id, marked⟩ := Option.ne_none_iff_exists'.1 marked
    obtain ⟨age, mode, notices, -, -, -, both⟩ := State.standingAndSession_conflict (not_not.1 listens) marked
    exact ⟨_, _, _, _, _, _, _, _, _, _, _, _, _, both, fun other => absurd (not_not.1 listens) other⟩

/-! ### The timer's own work (R24, R30, R34, R35) -/

theorem State.canRoundBoundary_spec {s : State} (can : s.canRoundBoundary = true) :
    (s.timer.mode = .running ∨ s.timer.mode = .realign) ∧ s.timer.slot = some 39 := by
  simp only [State.canRoundBoundary, Bool.and_eq_true, beq_iff_eq] at can
  obtain ⟨⟨-, runs⟩, slot⟩ := can
  refine ⟨?_, slot⟩
  unfold Timer.roundRunning at runs
  cases mode : s.timer.mode <;> simp_all

theorem Timer.ticks_iff (t : Timer) : t.ticks = true ↔ 99 ≤ t.tickCount := by
  rw [Timer.ticks, decide_eq_true_eq]
  omega

theorem Timer.boundary_tickCount (t : Timer) :
    t.boundary.tickCount = if 99 ≤ t.tickCount then 0 else t.tickCount + 1 := by
  simp only [Timer.boundary, t.ticks_iff]

theorem Timer.correction_of_inside {t : Timer} {r : Reference} (reference : t.reference = some r)
    (running : t.mode = .running) (above : 16 < |r.offset|) (below : |r.offset| ≤ 320) : t.correction = r.offset := by
  simp only [Timer.correction, reference]
  exact if_pos ⟨running, above, below⟩

theorem Timer.correction_of_outside {t : Timer}
    (outside : t.mode ≠ .running ∨ ∀ r, t.reference = some r → |r.offset| ≤ 16 ∨ 320 < |r.offset|) :
    t.correction = 0 := by
  unfold Timer.correction
  split
  next r reference =>
    refine if_neg fun ⟨running, above, below⟩ => ?_
    obtain other | outside := outside
    · exact other running
    · obtain low | high := outside r reference
      · exact absurd above (Int.not_lt.2 low)
      · exact absurd below (Int.not_le.2 high)
  · rfl

theorem Timer.boundary_silence {t : Timer} (runs : t.mode = .running ∨ t.mode = .realign) (slot : t.slot = some 39) :
    t.boundary.silence =
      if t.mode = .realign ∧ t.target = none then min 80 (t.silence + 1) else t.silence := by
  change t.silenceAfterPeriod = _
  rw [t.silenceAfterPeriod_eq, if_neg (by obtain mode | mode := runs <;> simp [mode])]
  simp [slot]

/-- Settles O35: the timer's work is done before the standing's and the session's, which leave it. -/
theorem roundBoundaryAlignsAndCounts : Obligations.RoundBoundaryAlignsAndCounts := by
  intro s held can
  obtain ⟨runs, slot⟩ := State.canRoundBoundary_spec can
  obtain ⟨_, _, _, _, _, _, _, _, _, _, _, _, _, both, quiet⟩ := s.timerBoundary.standingAndSession_frame
  rw [exec_roundBoundary held can, both]
  refine ⟨_, rfl, rfl, fun early => ?_, fun late => ?_, fun r reference running above below => ?_, fun outside => ?_,
    rfl, rfl, rfl, rfl, ?_, fun other => ?_, rfl, rfl, rfl⟩
  · exact ⟨(Timer.boundary_tickCount _).trans (if_neg (by omega)), Bool.eq_false_iff.2 fun ticks =>
      absurd ((Timer.ticks_iff _).1 ticks) (by omega)⟩
  · exact ⟨(Timer.boundary_tickCount _).trans (if_pos late), (Timer.ticks_iff _).2 late⟩
  · rw [← Timer.correction_of_inside reference running above below]
    rfl
  · have none : s.timer.correction = 0 := Timer.correction_of_outside outside
    change s.timer.nextPeriod + s.timer.correction = _
    rw [none, Int.add_zero]
  · simp [State.timerBoundary, Timer.boundary, Option.isSome_iff_ne_none]
  · obtain ⟨rfl, rfl, rfl, rfl⟩ := quiet other
    exact ⟨rfl, rfl, Timer.boundary_silence runs slot, rfl⟩


/-! ### The misaligned rounds (R30) -/

/-- The misaligned-round count after a boundary. -/
def Timer.misalignedAfter (t : Timer) : Nat :=
  if t.mode = .running then
    match t.reference with
    | some r => if 320 < |r.offset| then min 255 (t.misaligned + 1) else 0
    | none => 0
  else t.misaligned

theorem Timer.boundary_misaligned (t : Timer) : t.boundary.misaligned = t.misalignedAfter := by
  simp only [Timer.boundary, Timer.misalignedAfter, Timer.misalignedRound]
  by_cases running : t.mode = .running
  · rw [if_pos running, if_pos running]
    obtain reference | ⟨r, reference⟩ := t.reference.eq_none_or_eq_some
    · simp only [reference, Bool.false_eq_true, if_false]
    · simp only [reference, running, decide_true, Bool.true_and, decide_eq_true_eq]
      rfl
  · rw [if_neg running, if_neg running]

/-! ### The session's counts (R165, R166, R168) -/

/-- Energy is integrated at this boundary (R166). -/
abbrev State.Integrates (s : State) : Prop :=
  (s.session.state = .precharge ∨ s.session.state = .connected ∨ s.session.state = .stopping)
    ∧ min 255 (s.session.reportAge + 1) < 4

theorem SessionState.integrates_iff (st : SessionState) :
    st.integrates = true ↔ st = .precharge ∨ st = .connected ∨ st = .stopping := by
  cases st <;> simp [SessionState.integrates]

theorem State.countedSession_record (s : State) :
    s.countedSession.record =
      if s.Integrates then s.session.record.map fun r => r.integrate s.session.lastMeasured
      else s.session.record := by
  simp only [State.countedSession, Session.atBoundary, SessionState.integrates_iff]
  rfl

/-- The energy of one round joins the record (R166). -/
theorem Record.integrate_spec (r : Record) (measured : Nat) :
    ∃ n : Nat, r.accumulator + measured = 36000 * n + (r.integrate measured).accumulator
      ∧ (r.integrate measured).accumulator < 36000
      ∧ r.integrate measured =
        { r with
          accumulator := (r.integrate measured).accumulator, energyNeeded := r.energyNeeded - n,
          delivered := min 65535 (r.delivered + n) } :=
  ⟨(r.accumulator + measured) / 36000, (Nat.div_add_mod _ _).symm, Nat.mod_lt _ (by decide), rfl⟩

theorem State.countedSession_overdrawRun (s : State) :
    s.countedSession.overdrawRun =
      if s.session.state = .connected
          ∧ s.session.lastMeasured > s.applyUnit.applied + 5 + s.applyUnit.applied / 16 then
        min 8 (s.session.overdrawRun + 1)
      else 0 := by
  simp only [State.countedSession, Session.atBoundary, overdrawing, decide_eq_true_eq, ite_and, gt_iff_lt]

/-! ### The queue after a conflict -/

theorem NoticeQueue.push_of_room {q : NoticeQueue} (n : Notice) (room : q.queue.length < 16) :
    (q.push n).queue = q.queue ++ [n] := by
  rw [NoticeQueue.push, if_pos (by exact room)]

theorem NoticeQueue.mem_push {q : NoticeQueue} {n m : Notice} (mem : n ∈ q.queue) : n ∈ (q.push m).queue := by
  unfold NoticeQueue.push
  split
  · exact List.mem_append_left _ mem
  · exact mem

theorem NoticeQueue.mem_push_self {q : NoticeQueue} (n : Notice) (room : q.queue.length < 16) :
    n ∈ (q.push n).queue := by
  rw [NoticeQueue.push_of_room n room]
  exact List.mem_append_right _ (List.mem_singleton_self n)

/-- A CONFLICT is in the queue where it has room for two notices. -/
theorem State.ConflictNotices.mem {s : State} {id : Identity} {q : NoticeQueue} (notices : s.ConflictNotices id q)
    (room : s.notices.queue.length < 15) :
    s.notice .conflict s.standing.pad (some id.toNat) ∈ q.queue := by
  have first := NoticeQueue.mem_push_self (s.notice .conflict s.standing.pad (some id.toNat))
    (Nat.lt_succ_of_lt room)
  obtain rfl | ⟨-, rfl⟩ := notices
  · unfold State.conflictNotices
    split
    · exact first
    · exact NoticeQueue.mem_push first
  · refine NoticeQueue.mem_push_self _ ?_
    rw [NoticeQueue.push_of_room _ (Nat.lt_succ_of_lt room), List.length_append]
    exact Nat.succ_lt_succ room

theorem State.ConflictNotices.of_not_connected {s : State} {id : Identity} {q : NoticeQueue}
    (notices : s.ConflictNotices id q) (other : s.session.state ≠ .connected) : q = s.conflictNotices id := by
  obtain same | ⟨completes, -⟩ := notices
  · exact same
  · exact absurd (State.completes_spec completes).1 other

theorem State.nextIntentAge_cases (s : State) :
    s.nextIntentAge = s.turn.intentAge
      ∨ (s.session.state = .intent ∧ s.turn.ownTurn = false ∧ s.nextIntentAge = min 255 (s.turn.intentAge + 1)) := by
  unfold State.nextIntentAge
  split
  next both => exact .inr ⟨both.1, both.2, rfl⟩
  · exact .inl rfl

theorem State.conflictNotices_of {s : State} {st : SessionState} (id : Identity) (state : s.session.state = st) :
    s.conflictNotices id =
      if conflictTarget st = st then s.notices.push (s.notice .conflict s.standing.pad (some id.toNat))
      else
        (s.notices.push (s.notice .conflict s.standing.pad (some id.toNat))).push
          (s.sessionNotice (conflictTarget st) .conflict) := by
  subst state
  rfl

theorem conflictTarget_of_other {st : SessionState} (intent : st ≠ .intent) (precharge : st ≠ .precharge)
    (connected : st ≠ .connected) : conflictTarget st = st := by
  cases st <;> simp_all [conflictTarget]

/-! ### The standing without a conflict -/

theorem State.calmTimer_of_stays {s : State} (stays : ¬s.Resyncs) : s.calmTimer = s.timer := if_neg stays

theorem State.resyncDue_of_silent {s : State} (silent : s.standing.state.transmitting = false) :
    s.resyncDue = false := by
  rw [State.resyncDue, silent, Bool.false_and, Bool.false_and]

theorem State.resyncDue_iff (s : State) :
    s.resyncDue = true ↔
      s.standing.state.transmitting = true ∧ s.timer.mode = .running ∧ 2 ≤ s.timer.misaligned := by
  simp [State.resyncDue, and_assoc]

theorem State.calmStanding_of_listen {s : State} (listens : s.standing.state = .listen) :
    s.calmStanding = s.standing.countSkipped.enter (if 2 ≤ s.timer.misaligned then .resync else .active) :=
  if_pos listens

theorem State.calmStanding_of_acquire {s : State} (acquire : s.standing.state = .acquire)
    (running : s.timer.mode = .running) : s.calmStanding = s.standing.countSkipped.enterListen :=
  (if_neg (acquire.trans_ne (by decide))).trans (if_pos ⟨acquire, running⟩)

theorem State.calmStanding_of_other {s : State} (listen : s.standing.state ≠ .listen)
    (acquire : s.standing.state ≠ .acquire ∨ s.timer.mode ≠ .running) :
    s.calmStanding = s.standing.countSkipped :=
  (if_neg listen).trans (if_neg (not_and_or.2 acquire))

/-- Settles O36: the conflict that ends LISTEN, the standings without one, and REALIGN. -/
theorem roundBoundaryMovesTheStanding : Obligations.RoundBoundaryMovesTheStanding := by
  refine ⟨fun s held can running => ?running, fun s held can other calm => ?realign⟩
  case running =>
    intro misaligned backoff conflict changed age integrates
    have count : s.timer.boundary.misaligned = misaligned :=
      s.timer.boundary_misaligned.trans (if_pos running)
    rw [exec_roundBoundary held can]
    by_cases calm : s.standing.state ≠ .listen ∨ s.standing.occupant = none
    · obtain ⟨notices, -, both⟩ := State.standingAndSession_calm (s := s.timerBoundary) calm
      rw [both]
      refine ⟨_, rfl, fun acquire => ?acquire, fun id listens marked => ?conflict, fun listens _ late => ?late,
        fun listens _ early => ?early, fun listen acquire => ?other⟩
      case acquire =>
        have stays : ¬s.timerBoundary.Resyncs := fun resyncs => absurd (acquire.symm.trans resyncs.1) (by decide)
        have silent : s.timerBoundary.resyncDue = false :=
          State.resyncDue_of_silent (congrArg Standing.transmitting acquire)
        refine ⟨State.calmStanding_of_acquire acquire running, ?_, ?_, ?_⟩
        · exact (congrArg Timer.mode (State.calmTimer_of_stays stays)).trans running
        · exact (congrArg Timer.misaligned (State.calmTimer_of_stays stays)).trans count
        · exact (congrArg (s.due.resync || ·) silent).trans (Bool.or_false _)
      case conflict =>
        obtain other | unmarked := calm
        · exact absurd listens other
        · exact absurd (unmarked.symm.trans marked) nofun
      case late =>
        have resyncs : s.timerBoundary.Resyncs := ⟨listens, count.symm ▸ late⟩
        have silent : s.timerBoundary.resyncDue = false :=
          State.resyncDue_of_silent (congrArg Standing.transmitting listens)
        refine ⟨?_, ?_, ?_, ?_, ?_, (congrArg (s.due.resync || ·) silent).trans (Bool.or_false _)⟩
        · refine (State.calmStanding_of_listen (s := s.timerBoundary) listens).trans ?_
          rw [if_pos resyncs.2]
          rfl
        · exact congrArg Timer.mode (if_pos resyncs)
        · exact congrArg Timer.misaligned (if_pos resyncs)
        · exact congrArg Timer.target (if_pos resyncs)
        · exact congrArg Timer.silence (if_pos resyncs)
      case early =>
        have stays : ¬s.timerBoundary.Resyncs := fun resyncs => absurd (count ▸ resyncs.2) (Nat.not_le_of_lt early)
        have silent : s.timerBoundary.resyncDue = false :=
          State.resyncDue_of_silent (congrArg Standing.transmitting listens)
        refine ⟨?_, ?_, ?_, (congrArg (s.due.resync || ·) silent).trans (Bool.or_false _)⟩
        · refine (State.calmStanding_of_listen (s := s.timerBoundary) listens).trans ?_
          rw [if_neg fun late => stays ⟨listens, late⟩]
          rfl
        · exact (congrArg Timer.mode (State.calmTimer_of_stays stays)).trans running
        · exact (congrArg Timer.misaligned (State.calmTimer_of_stays stays)).trans count
      case other =>
        have stays : ¬s.timerBoundary.Resyncs := fun resyncs => listen resyncs.1
        refine ⟨State.calmStanding_of_other listen (.inl acquire), ?_, ?_, ?_⟩
        · exact (congrArg Timer.mode (State.calmTimer_of_stays stays)).trans running
        · exact (congrArg Timer.misaligned (State.calmTimer_of_stays stays)).trans count
        · refine (Bool.or_eq_true _ _).to_iff.trans (or_congr_right (s.timerBoundary.resyncDue_iff.trans ?_))
          rw [← count]
          exact and_congr_right fun _ => and_iff_right running
    · obtain ⟨listens, marked⟩ := not_or.1 calm
      obtain ⟨id, marked⟩ := Option.ne_none_iff_exists'.1 marked
      replace listens := not_not.1 listens
      obtain ⟨intentAge, mode, notices, aged, opens, raised, both⟩ :=
        State.standingAndSession_conflict (s := s.timerBoundary) listens marked
      rw [both]
      refine ⟨_, rfl, fun acquire => absurd (listens.symm.trans acquire) (by decide), fun id' _ marked' => ?_,
        fun _ unmarked => absurd (marked.symm.trans unmarked) nofun,
        fun _ unmarked => absurd (marked.symm.trans unmarked) nofun, fun other => absurd listens other⟩
      obtain rfl := Option.some.inj (marked.symm.trans marked')
      obtain ⟨forced, rest⟩ := opens
      refine ⟨rfl, running, count, rfl, raised.mem, ?target, forced, rest, rfl, ?age, rfl, rfl, rfl, rfl, rfl, ?idle,
        ?energy, ?intent, ?precharge, ?connected, ?others⟩
      case target =>
        change conflictTarget s.session.state = _
        cases s.session.state <;> rfl
      case age =>
        obtain rfl | rfl := aged
        · exact .inl rfl
        · exact s.timerBoundary.nextIntentAge_cases
      case idle =>
        intro stays
        exact (State.countedSession_record _).trans (if_neg stays)
      case energy =>
        intro r runs record
        obtain ⟨n, sum, bound, whole⟩ := r.integrate_spec s.session.lastMeasured
        refine ⟨n, _, ?_, sum, bound, whole⟩
        refine (State.countedSession_record _).trans ((if_pos runs).trans ?_)
        exact congrArg (Option.map _) record
      case intent =>
        intro intent
        rw [raised.of_not_connected (by exact intent.trans_ne (by decide))]
        exact (State.conflictNotices_of (s := s.timerBoundary) id intent).trans (if_neg (by decide))
      case precharge =>
        intro precharge
        rw [raised.of_not_connected (by exact precharge.trans_ne (by decide))]
        exact (State.conflictNotices_of (s := s.timerBoundary) id precharge).trans (if_neg (by decide))
      case connected =>
        intro connected
        obtain rfl | ⟨completes, rfl⟩ := raised
        · exact .inl ((State.conflictNotices_of (s := s.timerBoundary) id connected).trans (if_neg (by decide)))
        · exact .inr ⟨(State.completes_spec completes).2, rfl⟩
      case others =>
        intro notIntent notPrecharge notConnected
        rw [raised.of_not_connected (by exact notConnected)]
        exact if_pos (conflictTarget_of_other notIntent notPrecharge notConnected)
  case realign =>
    obtain ⟨notices, -, both⟩ := State.standingAndSession_calm (s := s.timerBoundary) (.inl calm)
    have stays : ¬s.timerBoundary.Resyncs := fun resyncs => calm resyncs.1
    rw [exec_roundBoundary held can, both]
    refine ⟨_, rfl, State.calmStanding_of_other calm (.inr other), ?_, ?_, ?_⟩
    · have timer := congrArg Timer.mode (State.calmTimer_of_stays stays)
      exact timer
    · exact (congrArg Timer.misaligned (State.calmTimer_of_stays stays)).trans
        (s.timer.boundary_misaligned.trans (if_neg other))
    · have silent : s.timerBoundary.resyncDue = false :=
        Bool.eq_false_iff.2 fun due => other (s.timerBoundary.resyncDue_iff.1 due).2.1
      exact (congrArg (s.due.resync || ·) silent).trans (Bool.or_false _)


/-! ### The session without a conflict -/

/-- The first of the conditions that stop a CONNECTED session (R169), by the counts after the boundary. -/
theorem State.stopCause_spec (s : State) (connected : s.session.state = .connected) :
    let q := s.countedSession
    (8 ≤ q.overdrawRun → q.stopCause = some .overdraw)
      ∧ (q.overdrawRun < 8 → 50 ≤ q.reportAge → q.stopCause = some .reportLost)
      ∧ ∀ r, q.overdrawRun < 8 → q.reportAge < 50 → q.record = some r →
        q.stopCause = if r.energyNeeded = 0 then some .complete else none := by
  have state : s.countedSession.state = .connected := connected
  refine ⟨fun run => ?_, fun run age => ?_, fun r run age record => ?_⟩
  · simp [Session.stopCause, state, run]
  · simp [Session.stopCause, state, Nat.not_le.2 run, age]
  · simp [Session.stopCause, Session.noEnergyNeeded, state, Nat.not_le.2 run, Nat.not_le.2 age, record]

/-- A boundary that stops nothing at once leaves the session's state, and the sequencer. -/
theorem State.next_of_goesOn {s : State} (goesOn : ¬s.Completes) :
    s.nextSession = s.countedSession ∧ s.nextSeq = s.seq := ⟨if_neg goesOn, if_neg goesOn⟩

theorem State.not_completes_of {s : State} {cause : Option Cause} (stops : s.countedSession.stopCause = cause)
    (other : cause ≠ some .complete) : ¬s.Completes := fun completes => other (stops.symm.trans completes)

/-- What the session's part makes due, by the cause of the stop (R169). -/
theorem State.nextDue_of {s : State} {cause : Option Cause} (stops : s.countedSession.stopCause = cause) :
    s.nextDue =
      { s.due with
        overdraw := if cause = some .overdraw then some s.session.lastMeasured else none
        reportLost := if cause = some .reportLost then some (min 255 (s.session.reportAge + 1)) else none } := by
  subst stops
  rfl

/-- A stop writes the session's state and overdraw run alone. -/
theorem State.nextSession_frame (s : State) :
    s.nextSession.record = s.countedSession.record ∧ s.nextSession.reportAge = min 255 (s.session.reportAge + 1)
      ∧ s.nextSession =
        { s.session with
          state := s.nextSession.state, record := s.nextSession.record, reportAge := min 255 (s.session.reportAge + 1),
          overdrawRun := s.nextSession.overdrawRun } := by
  unfold State.nextSession
  split
  · exact ⟨rfl, rfl, rfl⟩
  · exact ⟨rfl, rfl, rfl⟩

/-- Settles O37: the counts advance, and the first condition that holds stops a CONNECTED session. -/
theorem roundBoundaryIntegratesTheSession : Obligations.RoundBoundaryIntegratesTheSession := by
  intro s held can calm misaligned resyncs resync complete quiet age integrates run
  obtain ⟨notices, ⟨goesOn, completes, both⟩, whole⟩ := State.standingAndSession_calm (s := s.timerBoundary) calm
  have count : s.timerBoundary.timer.misaligned = misaligned := s.timer.boundary_misaligned
  have resyncsIff : resyncs = true ↔ s.timerBoundary.Resyncs := by
    rw [State.Resyncs, count]
    simp [resyncs, State.timerBoundary]
  have quietIs : s.timerBoundary.calmNotices s.notices = quiet := by
    unfold State.calmNotices
    by_cases stands : s.timerBoundary.Resyncs
    · rw [if_pos stands]
      exact (if_pos (resyncsIff.2 stands)).symm
    · rw [if_neg stands]
      exact (if_neg fun is => stands (resyncsIff.1 is)).symm
  have runIs : s.timerBoundary.countedSession.overdrawRun = run := State.countedSession_overdrawRun s.timerBoundary
  obtain ⟨record, reported, frame⟩ := s.timerBoundary.nextSession_frame
  have quietly : ∀ {cause}, s.timerBoundary.countedSession.stopCause = cause → cause ≠ some .complete →
      s.timerBoundary.nextSession = s.timerBoundary.countedSession ∧ s.timerBoundary.nextSeq = s.timerBoundary.seq
        ∧ notices = quiet := by
    intro cause stops other
    have stays := State.not_completes_of stops other
    obtain ⟨session, seq⟩ := State.next_of_goesOn stays
    exact ⟨session, seq, (goesOn stays).trans quietIs⟩
  rw [exec_roundBoundary held can, whole]
  refine ⟨_, rfl, reported, rfl, rfl, ?idle, ?energy, ?overdraw, ?lost, ?complete, ?goes, ?others, frame⟩
  case idle =>
    exact fun stays => record.trans ((State.countedSession_record _).trans (if_neg stays))
  case energy =>
    intro r runs known
    obtain ⟨n, sum, bound, joined⟩ := r.integrate_spec s.session.lastMeasured
    refine ⟨n, _, ?_, sum, bound, congrArg Record.energyNeeded joined, congrArg Record.delivered joined, rfl⟩
    refine record.trans ((State.countedSession_record _).trans ((if_pos runs).trans ?_))
    exact congrArg (Option.map _) known
  case overdraw =>
    intro connected long
    have stops := (s.timerBoundary.stopCause_spec connected).1 (runIs.symm ▸ long)
    obtain ⟨session, seq, same⟩ := quietly stops (by decide)
    rw [session, seq, same, State.nextDue_of stops]
    exact ⟨rfl, rfl, connected, runIs, rfl, rfl⟩
  case lost =>
    intro connected short stale
    have stops := (s.timerBoundary.stopCause_spec connected).2.1 (runIs.symm ▸ short) stale
    obtain ⟨session, seq, same⟩ := quietly stops (by decide)
    rw [session, seq, same, State.nextDue_of stops]
    exact ⟨rfl, rfl, connected, runIs, rfl, rfl⟩
  case complete =>
    intro r connected short fresh known none
    have stops := (s.timerBoundary.stopCause_spec connected).2.2 r (runIs.symm ▸ short) fresh
      (record.symm.trans known)
    rw [if_pos none] at stops
    have session : s.timerBoundary.nextSession =
        { s.timerBoundary.countedSession with state := .stopping, overdrawRun := 0 } := if_pos stops
    have seq : s.timerBoundary.nextSeq = s.timerBoundary.seq.requestOpen .normal := if_pos stops
    rw [session, seq, State.nextDue_of stops]
    refine ⟨rfl, rfl, rfl, rfl, ?_, fun busy free => Seq.requestOpen_normal_of_none free busy, fun stays => ?_,
      fun stands => both stops (resyncsIff.1 stands)⟩
    · rintro (asked | ⟨idle, pre, main⟩)
      · exact Seq.requestOpen_normal_of_some asked
      · have same := congrArg Seq.openMode (Seq.requestOpen_of_rest (q := s.timerBoundary.seq) .normal idle pre main)
        exact same
    · exact completes stops fun stands => absurd (resyncsIff.2 stands) (by simp [stays])
  case goes =>
    intro r connected short fresh known some
    have stops := (s.timerBoundary.stopCause_spec connected).2.2 r (runIs.symm ▸ short) fresh
      (record.symm.trans known)
    rw [if_neg some] at stops
    obtain ⟨session, seq, same⟩ := quietly stops (by decide)
    rw [session, seq, same, State.nextDue_of stops]
    exact ⟨connected, runIs, rfl, rfl, rfl, rfl⟩
  case others =>
    intro other
    have stops : s.timerBoundary.countedSession.stopCause = none := Session.stopCause_of_not_connected other
    obtain ⟨session, seq, same⟩ := quietly stops (by decide)
    rw [session, seq, same, State.nextDue_of stops]
    exact ⟨rfl, runIs.trans (if_neg fun is => other is.1), rfl, rfl, rfl, rfl⟩

end Sys2Proof.Machine
end

section
-- Proofs elaborated in order keep the number of threads within what the check's memory limit allows.
set_option Elab.async false
/-! A filed claim (R57 to R60). -/

namespace Sys2Proof.Machine

/-! ### The notices of a receipt -/

/-- The notices that stand behind the others, in their order. -/
def State.noting (s : State) (notes : List Notice) : State :=
  { s with notices := notes.foldl NoticeQueue.push s.notices }

theorem State.noting_noting (s : State) (first then_ : List Notice) :
    (s.noting first).noting then_ = s.noting (first ++ then_) := by
  rw [State.noting, State.noting, State.noting, List.foldl_append]

/-- HELD_CLEARED for the entry as it stood (R59). -/
def State.heldClearedNotes (s : State) (pad : Nat) (e : Entry) : List Notice :=
  if e.state = .held ∨ e.state = .adopted then [s.notice .heldCleared (some pad) (some (e.reserve.getD 0))] else []

/-- IDENTITY_CHANGED for the entry as it stood (R59). -/
def State.identityNotes (s : State) (pad : Nat) (e : Entry) (c : Claim) : List Notice :=
  if (e.state = .live ∨ e.state = .stale ∨ e.state = .held) ∧ e.claim.isSome = true
      ∧ e.claim.map Claim.identity ≠ some c.identity then
    [s.notice .identityChanged (some pad) (some c.identity.toNat)]
  else []

/-- VIEW_MISMATCH for the entry before and after (R60). -/
def State.mismatchNotes (s : State) (pad : Nat) (before after : Entry) : List Notice :=
  if after.mismatch = true ∧ before.mismatch = false then [s.notice .viewMismatch (some pad) after.excess] else []

theorem State.noteHeldCleared_eq (s : State) (pad : Nat) (e : Entry) :
    s.noteHeldCleared pad e = s.noting (s.heldClearedNotes pad e) := by
  unfold State.noteHeldCleared State.heldClearedNotes
  split <;> rfl

theorem State.noteIdentity_eq (s : State) (pad : Nat) (e : Entry) (c : Claim) :
    s.noteIdentity pad e c = s.noting (s.identityNotes pad e c) := by
  unfold State.noteIdentity State.identityNotes
  cases e.claim with
  | none => simp [State.noting]
  | some old =>
    simp only [Option.isSome_some, Option.map_some, ne_eq, Option.some.injEq, true_and]
    split <;> rfl

theorem State.noteMismatch_eq (s : State) (pad : Nat) (e : Entry) (c : Claim) :
    s.noteMismatch pad e c = s.noting (s.mismatchNotes pad e (e.receive c)) := by
  unfold State.noteMismatch State.mismatchNotes Entry.receive
  cases e.excessOf c with
  | none => simp [State.noting]
  | some x => cases e.mismatch <;> simp [State.noting, State.raise]

theorem State.fileClaim_eq (s : State) (c : Claim) :
    s.fileClaim c =
      { s with
        view := s.view.withEntries (s.view.entries.set c.pad ((s.view.entry c.pad).receive c))
        store := s.store.release
        line := { s.line with register := none }
        notices :=
          (s.heldClearedNotes c.pad (s.view.entry c.pad) ++ s.identityNotes c.pad (s.view.entry c.pad) c
            ++ s.mismatchNotes c.pad (s.view.entry c.pad) ((s.view.entry c.pad).receive c)).foldl NoticeQueue.push
            s.notices } := by
  rw [State.fileClaim, State.noteMismatch_eq, State.noteIdentity_eq, State.noteHeldCleared_eq, State.noting_noting,
    State.noting_noting, ← List.append_assoc]
  rfl

/-! ### The excess of a receipt (R60) -/

theorem Entry.excessOf_of_above {e : Entry} {c : Claim} {x : Nat} (expected : e.expected = some x)
    (above : x < c.commit) :
    e.excessOf c = some (c.commit - x) := by
  rw [Entry.excessOf, expected]
  exact if_pos above

theorem Entry.excessOf_of_within {e : Entry} {c : Claim} (within_ : ∀ x, e.expected = some x → c.commit ≤ x) :
    e.excessOf c = none := by
  unfold Entry.excessOf
  split
  next x expected => exact if_neg (Nat.not_lt.2 (within_ x expected))
  · rfl

theorem countOf_eq (entries : List Entry) (st : EntryState) :
    countOf entries st = (entries.filter fun e => decide (e.state = st)).length := by
  rw [countOf, List.countP_eq_length_filter]
  rfl

theorem heldOf_iff (entries : List Entry) {pad : Nat} (inside : pad < 36) :
    (heldOf entries).getLsbD pad = true ↔ (entries.getD pad Entry.blank).state = .held := by
  rw [heldOf_getLsbD entries inside, beq_iff_eq]

theorem exec_claimFiled {s : State} {c : Claim} (held : s.resetHeld = false) (grant : s.store.grant = some .claimWrite)
    (register : s.line.register = some c) : exec .claimFiled s = .next (s.fileClaim c) := by
  have granted : s.granted .claimWrite = true := by simp [State.granted, grant]
  rw [exec, execClaimFiled, State.act_taken _ held granted, register]

/-- Settles O17: the entry of the claim's pad is replaced, after the notices of the one it replaces. -/
theorem claimFiledMakesTheEntryLive : Obligations.ClaimFiledMakesTheEntryLive := by
  intro c s held grant register inside e
  have own : (s.view.withEntries (s.view.entries.set c.pad (e.receive c))).entry c.pad = e.receive c :=
    (getD_set_entry _ _ _ _ inside).trans (if_pos rfl)
  have expected := congrArg Entry.expected own
  rw [exec_claimFiled held grant register, State.fileClaim_eq]
  refine ⟨_, rfl, congrArg Entry.state own, congrArg Entry.claim own, congrArg Entry.heard own, congrArg Entry.age own,
    congrArg Entry.reserve own, expected, fun x expected above => ?_, fun below => ?_,
    fun pad other => (getD_set_entry _ _ _ _ inside).trans (if_neg other), List.length_set,
    fun pad inside => heldOf_iff _ inside, fun entries => ⟨fun pad inside => heldOf_iff _ inside, countOf_eq entries⟩,
    congrArg (fun after => (s.heldClearedNotes c.pad e ++ s.identityNotes c.pad e c
      ++ s.mismatchNotes c.pad e after).foldl NoticeQueue.push s.notices) own.symm, rfl⟩
  · have excess := Entry.excessOf_of_above expected above
    exact ⟨(congrArg Entry.mismatch own).trans (congrArg Option.isSome excess),
      (congrArg Entry.excess own).trans excess⟩
  · have excess := Entry.excessOf_of_within below
    exact ⟨(congrArg Entry.mismatch own).trans (congrArg Option.isSome excess),
      (congrArg Entry.excess own).trans excess⟩

end Sys2Proof.Machine
end

section
-- Proofs elaborated in order keep the number of threads within what the check's memory limit allows.
set_option Elab.async false
/-! The snapshot, the limits in force and the budgets (R67, R80 to R82, R86, R91). -/

namespace Sys2Proof.Machine

/-! ### The least of some figures -/

theorem least_eq_min? (l : List Nat) : least l = l.min? := by
  cases l with
  | nil => rfl
  | cons x xs => rfl

theorem least_of_mem {l : List Nat} {x : Nat} (mem : x ∈ l) :
    ∃ m ∈ l, least l = some m ∧ ∀ y ∈ l, m ≤ y := by
  cases found : l.min? with
  | none => exact absurd (List.min?_eq_none_iff.1 found) (List.ne_nil_of_mem mem)
  | some m =>
    obtain ⟨inList, lower⟩ := List.min?_eq_some_iff.1 found
    exact ⟨m, inList, (least_eq_min? l).trans found, lower⟩

/-- The least figure of a nonempty list of members. -/
theorem least_map_of_mem {members : List LimitMember} {m : LimitMember} (f : LimitMember → Nat) (mem : m ∈ members) :
    (∃ k ∈ members, (least (members.map f)).getD 0 = f k)
      ∧ ∀ k ∈ members, (least (members.map f)).getD 0 ≤ f k := by
  obtain ⟨x, inList, found, lower⟩ := least_of_mem (List.mem_map_of_mem (f := f) mem)
  obtain ⟨k, inMembers, rfl⟩ := List.mem_map.1 inList
  rw [found]
  exact ⟨⟨k, inMembers, rfl⟩, fun k inMembers => lower _ (List.mem_map_of_mem inMembers)⟩

/-! ### The limits in force (R80 to R82) -/

theorem Entry.member_eq_some_iff (e : Entry) (m : LimitMember) :
    e.member = some m ↔ (e.state = .live ∨ e.state = .stale ∨ e.state = .held) ∧ ∃ c, e.claim = some c
      ∧ m = { branch := c.branch, branchLimit := c.branchLimit, feederLimit := c.feederLimit,
              curtailLimit := c.curtailLimit } := by
  unfold Entry.member
  split
  next counts => simp [counts, eq_comm (a := m)]
  next stays => simp [stays]

theorem mem_limitSet_iff (cfg : Setup) (entries : List Entry) (m : LimitMember) :
    m ∈ limitSet cfg entries ↔
      m = { branch := cfg.branch, branchLimit := cfg.branchLimit, feederLimit := cfg.feederLimit,
            curtailLimit := cfg.curtailLimit }
      ∨ ∃ e ∈ entries, (e.state = .live ∨ e.state = .stale ∨ e.state = .held) ∧ ∃ c, e.claim = some c
        ∧ m = { branch := c.branch, branchLimit := c.branchLimit, feederLimit := c.feederLimit,
                curtailLimit := c.curtailLimit } := by
  simp only [limitSet, List.mem_cons, List.mem_filterMap, Entry.member_eq_some_iff]
  rfl

theorem own_mem_limitSet (cfg : Setup) (entries : List Entry) : cfg.member ∈ limitSet cfg entries :=
  List.mem_cons_self

theorem feederLimitInForce_spec (inForce : Bool) {members : List LimitMember} {own : LimitMember}
    (mem : own ∈ members) :
    (∀ m ∈ members, feederLimitInForce inForce members ≤ m.feederLimit
        ∧ (inForce = true → feederLimitInForce inForce members ≤ m.curtailLimit))
      ∧ ∃ m ∈ members, feederLimitInForce inForce members = m.feederLimit
        ∨ (inForce = true ∧ feederLimitInForce inForce members = m.curtailLimit) := by
  obtain ⟨⟨k, inK, feeder⟩, feederLe⟩ := least_map_of_mem LimitMember.feederLimit mem
  obtain ⟨⟨j, inJ, curtail⟩, curtailLe⟩ := least_map_of_mem LimitMember.curtailLimit mem
  cases inForce with
  | false =>
    simp only [feederLimitInForce, Bool.false_eq_true, if_false]
    exact ⟨fun m inM => ⟨feederLe m inM, nofun⟩, k, inK, .inl feeder⟩
  | true =>
    simp only [feederLimitInForce, if_true]
    refine ⟨fun m inM =>
      ⟨(min_le_left _ _).trans (feederLe m inM), fun _ => (min_le_right _ _).trans (curtailLe m inM)⟩, ?_⟩
    obtain first | second := min_choice ((least (members.map LimitMember.feederLimit)).getD 0)
      ((least (members.map LimitMember.curtailLimit)).getD 0)
    · exact ⟨k, inK, .inl (first.trans feeder)⟩
    · exact ⟨j, inJ, .inr ⟨trivial, second.trans curtail⟩⟩

theorem branchLimitInForce_spec (members : List LimitMember) (branch : Nat) :
    (∀ m ∈ members, m.branch = branch → branchLimitInForce members branch ≤ m.branchLimit)
      ∧ ((∃ m ∈ members, m.branch = branch ∧ branchLimitInForce members branch = m.branchLimit)
        ∨ ((∀ m ∈ members, m.branch ≠ branch) ∧ branchLimitInForce members branch = 16000)) := by
  have mem : ∀ m, m ∈ members.filter (fun m => m.branch == branch) ↔ m ∈ members ∧ m.branch = branch := by
    intro m
    rw [List.mem_filter, beq_iff_eq]
  by_cases some : ∃ m ∈ members, m.branch = branch
  · obtain ⟨m, inM, onBranch⟩ := some
    obtain ⟨x, inList, found, lower⟩ :=
      least_of_mem (List.mem_map_of_mem (f := LimitMember.branchLimit) ((mem m).2 ⟨inM, onBranch⟩))
    obtain ⟨k, inK, rfl⟩ := List.mem_map.1 inList
    obtain ⟨inMembers, here⟩ := (mem k).1 inK
    have least : branchLimitInForce members branch = k.branchLimit := by
      rw [branchLimitInForce, found]
      rfl
    rw [least]
    exact ⟨fun m inM onBranch => lower _ (List.mem_map_of_mem ((mem m).2 ⟨inM, onBranch⟩)),
      .inl ⟨k, inMembers, here, rfl⟩⟩
  · have none : members.filter (fun m => m.branch == branch) = [] :=
      List.filter_eq_nil_iff.2 fun m inM onBranch => some ⟨m, inM, beq_iff_eq.1 onBranch⟩
    have none' : ∀ m ∈ members, m.branch ≠ branch := fun m inM onBranch => some ⟨m, inM, onBranch⟩
    refine ⟨fun m inM onBranch => absurd onBranch (none' m inM), .inr ⟨none', ?_⟩⟩
    rw [branchLimitInForce, none]
    rfl

/-- The limit unit's budgets, by branch (R91). -/
theorem Limit.work_branchBudgets (l : Limit) (cfg : Setup) (snap : Snapshot) :
    (l.work cfg snap).branchBudgets =
      (List.range Config.branches).map fun b =>
        branchLimitInForce (limitSet cfg snap.entries) b - branchLoad (snap.loads cfg.branch) b := rfl

theorem getD_map_branches (f : Nat → Nat) {branch : Nat} (inside : branch < 6) :
    ((List.range Config.branches).map f).getD branch 0 = f branch := by
  have short : branch < Config.branches := inside
  simp [List.getD_eq_getElem?_getD, short]

/-! ### Curtailment (R86) -/

theorem curtailInForce_iff (own : Bool) (entries : List Entry) :
    curtailInForce own entries = true ↔
      own = true ∨ ∃ e ∈ entries, e.state = .live ∧ ∃ c, e.claim = some c ∧ c.curtailFlag = true := by
  simp only [curtailInForce, Bool.or_eq_true, List.any_eq_true, Bool.and_eq_true, beq_iff_eq]
  refine or_congr_right (exists_congr fun e => and_congr_right fun _ => and_congr_right fun _ => ?_)
  cases e.claim with
  | none => simp
  | some c => simp

/-- CURTAIL_ON and CURTAIL_OFF where the flag changes (R86). -/
theorem State.noteCurtail_eq (s : State) (was : Bool) :
    s.noteCurtail was =
      { s with
        notices :=
          if s.limit.inForce = true ∧ was = false then s.notices.push (s.notice .curtailOn none (some s.limit.feeder))
          else if s.limit.inForce = false ∧ was = true then
            s.notices.push (s.notice .curtailOff none (some s.limit.feeder))
          else s.notices } := by
  unfold State.noteCurtail
  cases now : s.limit.inForce <;> cases was <;> rfl

/-! ### The snapshot (R67) -/

theorem exec_snapshotCopy {s : State} (held : s.resetHeld = false) (grant : s.store.grant = some .snapshot)
    (awaits : s.share.phase = .awaitingSnapshot) :
    exec .snapshotCopy s =
      .next (({ s with
        store := s.store.release
        share := { s.share with phase := .computing, snapshot := some s.snapshotNow }
        limit := s.limit.work s.cfg s.snapshotNow } : State).noteCurtail s.limit.inForce) := by
  have granted : s.granted .snapshot = true := by simp [State.granted, grant]
  rw [exec, execSnapshotCopy, State.act_taken _ held granted]
  exact congrArg _ (if_pos awaits)

/-- Settles O24: the limit unit's work on the snapshot of this instant. -/
theorem snapshotGivesLimitsAndBudgets : Obligations.SnapshotGivesLimitsAndBudgets := by
  intro s held grant awaits
  rw [exec_snapshotCopy held grant awaits, State.noteCurtail_eq]
  refine ⟨_, s.snapshotNow, rfl, rfl, rfl, rfl, fun pad inside => ?_, curtailInForce_iff _ _,
    ⟨mem_limitSet_iff _ _, (feederLimitInForce_spec _ (own_mem_limitSet _ _)).1,
      (feederLimitInForce_spec _ (own_mem_limitSet _ _)).2, fun branch inside => ?_⟩, rfl, rfl, rfl⟩
  · refine (getD_mapIdx_entry _ _ _ inside).trans ?_
    by_cases own : s.standing.pad = some pad
    · rw [if_pos own]
      exact if_pos own.symm
    · rw [if_neg own]
      exact if_neg (Ne.symm own)
  · have limit : (s.limit.work s.cfg s.snapshotNow).branches.getD branch 0 =
        branchLimitInForce (limitSet s.cfg s.snapshotNow.entries) branch := getD_map_branches _ inside
    have budget : (s.limit.work s.cfg s.snapshotNow).branchBudgets.getD branch 0 =
        branchLimitInForce (limitSet s.cfg s.snapshotNow.entries) branch
          - branchLoad (s.snapshotNow.loads s.cfg.branch) branch := by
      rw [Limit.work_branchBudgets, getD_map_branches _ inside]
    obtain ⟨lower, reached⟩ := branchLimitInForce_spec (limitSet s.cfg s.snapshotNow.entries) branch
    dsimp only
    rw [limit, budget]
    exact ⟨lower, reached, rfl⟩

end Sys2Proof.Machine
end

section
-- Proofs elaborated in order keep the number of threads within what the check's memory limit allows.
set_option Elab.async false
/-! The fill and the floor exclusion (R98 to R107): the level that a stage finds, the progress of the stages, and
the budgets that every stage keeps. -/

namespace Sys2Proof.Machine

/-! ### The search for the largest level (R100) -/

/-- One step of the search by halves. -/
def searchUp (good : Nat → Bool) (level step : Nat) : Nat :=
  if good (level + step) then level + step else level

/-- The powers of two below 2 ^ n, from the highest down. -/
def halves (n : Nat) : List Nat := (List.range n).reverse.map (2 ^ ·)

theorem halves_succ (n : Nat) : halves (n + 1) = 2 ^ n :: halves n := by
  simp [halves, List.range_succ]

theorem topLevel_eq (b : Budgets) (ms : List FillMember) :
    topLevel b ms = (halves 14).foldl (searchUp (fits b ms)) 0 :=
  rfl

/-- The search by halves answers with the last good figure of its range, where the good figures form one run. -/
theorem search_spec {good : Nat → Bool} (anti : ∀ lo hi, lo ≤ hi → good hi = true → good lo = true)
    (n start : Nat) :
    start ≤ (halves n).foldl (searchUp good) start
      ∧ (halves n).foldl (searchUp good) start < start + 2 ^ n
      ∧ (good start = true → good ((halves n).foldl (searchUp good) start) = true)
      ∧ ∀ level < start + 2 ^ n, good level = true → level ≤ (halves n).foldl (searchUp good) start := by
  induction n generalizing start with
  | zero =>
    exact ⟨le_rfl, by simp [halves], fun h => h, fun level below _ => Nat.le_of_lt_succ below⟩
  | succ n ih =>
    rw [halves_succ, List.foldl_cons]
    have double : 2 ^ (n + 1) = 2 ^ n + 2 ^ n := by omega
    by_cases half : good (start + 2 ^ n) = true
    · rw [show searchUp good start (2 ^ n) = start + 2 ^ n from if_pos half]
      obtain ⟨above, below, stays, largest⟩ := ih (start + 2 ^ n)
      exact ⟨by omega, by omega, fun _ => stays half, fun level bound => largest level (by omega)⟩
    · rw [show searchUp good start (2 ^ n) = start from if_neg half]
      obtain ⟨above, below, stays, largest⟩ := ih start
      refine ⟨above, by omega, stays, fun level _ fit => largest level ?_ fit⟩
      exact not_le.mp fun beyond => half (anti _ _ beyond fit)

theorem topLevel_le (b : Budgets) (ms : List FillMember) : topLevel b ms ≤ 16383 := by
  have below := (search_spec (fun _ _ => fits_anti b ms) 14 0).2.1
  rw [topLevel_eq]
  omega

theorem fits_topLevel {b : Budgets} {ms : List FillMember} (start : fits b ms 0 = true) :
    fits b ms (topLevel b ms) = true :=
  (search_spec (fun _ _ => fits_anti b ms) 14 0).2.2.1 start

theorem le_topLevel {b : Budgets} {ms : List FillMember} {level : Nat} (range : level ≤ 16383)
    (fit : fits b ms level = true) : level ≤ topLevel b ms :=
  (search_spec (fun _ _ => fits_anti b ms) 14 0).2.2.2 level (by omega) fit

/-! ### What fits (R99) -/

theorem fits_iff (b : Budgets) (ms : List FillMember) (level : Nat) :
    fits b ms level = true ↔
      totalAt ms level ≤ b.feeder ∧ ∀ branch < 6, branchSumAt ms branch level ≤ b.branch branch := by
  simp [fits, Config.branches]

/-- The members with their shares at one level are within what they were at another, member by member. -/
theorem fits_map {b : Budgets} {ms : List FillMember} {f : FillMember → FillMember} {lo hi : Nat}
    (part : ∀ m, (f m).part = m.part) (share : ∀ m, (f m).shareAt lo ≤ m.shareAt hi)
    (fit : fits b ms hi = true) : fits b (ms.map f) lo = true := by
  have total : ∀ l : List FillMember, totalAt (l.map f) lo ≤ totalAt l hi := fun l => by
    rw [totalAt, List.map_map]
    exact List.sum_le_sum fun m _ => share m
  rw [fits_iff] at fit ⊢
  refine ⟨(total ms).trans fit.1, fun branch inside => le_trans ?_ (fit.2 branch inside)⟩
  rw [branchSumAt, List.filter_map,
    show ((fun m : FillMember => m.part.branch == branch) ∘ f) = fun m => m.part.branch == branch from
      funext fun m => by rw [Function.comp_apply, part]]
  exact total _

/-- At level 0 nobody has more than the share that it is frozen at. -/
theorem FillMember.shareAt_zero (m : FillMember) : m.shareAt 0 = m.result := by
  simp [FillMember.shareAt, FillMember.result]

theorem fits_freezeAll {b : Budgets} {ms : List FillMember} {top : Nat} (fit : fits b ms top = true) :
    fits b (ms.map (FillMember.freezeAt top)) 0 = true :=
  fits_map (fun _ => rfl) (fun _ => le_rfl) fit

theorem fits_freezeBranches {b : Budgets} {ms : List FillMember} {top : Nat} (fit : fits b ms top = true) :
    fits b (freezeBranches b ms top) 0 = true := by
  refine fits_map (fun m => ?_) (fun m => ?_) fit
  · split_ifs <;> rfl
  · split_ifs
    · exact le_rfl
    · exact m.shareAt_mono (Nat.zero_le _)

/-! ### The stages of a fill (R100 to R102) -/

/-- A participant at the start of a fill. -/
def FillMember.fresh (p : Participant) : FillMember := { part := p, frozen := none }

theorem fillStages_all {b : Budgets} {ms : List FillMember} (fuel : Nat)
    (ends : topLevel b ms = 16383 ∨ b.feeder < totalAt ms (topLevel b ms + 1)) :
    fillStages b (fuel + 1) ms = (topLevel b ms, ms.map (FillMember.freezeAt (topLevel b ms))) := by
  rw [fillStages]
  by_cases top : topLevel b ms = 16383
  · exact if_pos top
  · exact (if_neg top).trans (if_pos (ends.resolve_left top))

theorem fillStages_branches {b : Budgets} {ms : List FillMember} (fuel : Nat) (top : topLevel b ms ≠ 16383)
    (room : totalAt ms (topLevel b ms + 1) ≤ b.feeder) :
    fillStages b (fuel + 1) ms =
      if (freezeBranches b ms (topLevel b ms)).all (fun m => m.frozen.isSome) then
        (topLevel b ms, freezeBranches b ms (topLevel b ms))
      else fillStages b fuel (freezeBranches b ms (topLevel b ms)) := by
  rw [fillStages]
  exact (if_neg top).trans (if_neg (not_lt.mpr room))

/-- Every stage keeps the shares that are frozen within the budgets. -/
theorem fillStages_fits {b : Budgets} (fuel : Nat) {ms : List FillMember} (start : fits b ms 0 = true) :
    fits b (fillStages b fuel ms).2 0 = true := by
  induction fuel generalizing ms with
  | zero => exact fits_freezeAll (fits_topLevel start)
  | succ fuel ih =>
    by_cases ends : topLevel b ms = 16383 ∨ b.feeder < totalAt ms (topLevel b ms + 1)
    · rw [fillStages_all fuel ends]
      exact fits_freezeAll (fits_topLevel start)
    · obtain ⟨top, room⟩ := not_or.mp ends
      rw [fillStages_branches fuel top (not_lt.mp room)]
      split
      · exact fits_freezeBranches (fits_topLevel start)
      · exact ih (fits_freezeBranches (fits_topLevel start))

theorem fillStages_level (b : Budgets) (fuel : Nat) (ms : List FillMember) :
    (fillStages b fuel ms).1 ≤ 16383 := by
  induction fuel generalizing ms with
  | zero => exact topLevel_le b ms
  | succ fuel ih =>
    by_cases ends : topLevel b ms = 16383 ∨ b.feeder < totalAt ms (topLevel b ms + 1)
    · rw [fillStages_all fuel ends]
      exact topLevel_le b ms
    · obtain ⟨top, room⟩ := not_or.mp ends
      rw [fillStages_branches fuel top (not_lt.mp room)]
      split
      · exact topLevel_le b ms
      · exact ih _

/-- How many members are not frozen yet. -/
def unfrozen (ms : List FillMember) : Nat := (ms.map fun m => if m.frozen = none then 1 else 0).sum

theorem unfrozen_pos {ms : List FillMember} (left : ¬ ms.all (fun m => m.frozen.isSome) = true) :
    0 < unfrozen ms := by
  obtain ⟨m, mem, isOpen⟩ : ∃ m ∈ ms, m.frozen = none := by simpa using left
  refine lt_of_lt_of_le (by rw [if_pos isOpen]; exact Nat.one_pos)
    (List.le_sum_of_mem (List.mem_map_of_mem (f := fun m => if m.frozen = none then 1 else 0) mem))

/-- The branch that stops the search has a member that is not frozen: the frozen ones alone fit. -/
theorem exists_unfrozen_of_grows {ms : List FillMember} {lo hi : Nat} (grows : totalAt ms lo < totalAt ms hi) :
    ∃ m ∈ ms, m.frozen = none := by
  by_contra none_open
  refine absurd grows (not_lt.mpr (List.sum_le_sum fun m mem => ?_))
  obtain ⟨kw, frozen⟩ := Option.ne_none_iff_exists'.mp fun h => none_open ⟨m, mem, h⟩
  simp [FillMember.shareAt, frozen]

/-- Where the total still fits one level up, the branch test freezes somebody (R101). -/
theorem unfrozen_freezeBranches_lt {b : Budgets} {ms : List FillMember} (start : fits b ms 0 = true)
    (top : topLevel b ms ≠ 16383) (room : totalAt ms (topLevel b ms + 1) ≤ b.feeder) :
    unfrozen (freezeBranches b ms (topLevel b ms)) < unfrozen ms := by
  have below := topLevel_le b ms
  have tight : ¬ fits b ms (topLevel b ms + 1) = true := fun fit => by
    have := le_topLevel (by omega) fit
    omega
  obtain ⟨branch, inside, overflow⟩ :
      ∃ branch < 6, b.branch branch < branchSumAt ms branch (topLevel b ms + 1) := by
    simpa [fits_iff, room] using tight
  have within := ((fits_iff b ms _).mp (fits_topLevel start)).2 branch inside
  obtain ⟨m, mem, isOpen⟩ := exists_unfrozen_of_grows (lt_of_le_of_lt within overflow)
  obtain ⟨mem, on⟩ := List.mem_filter.mp mem
  have on : m.part.branch = branch := by simpa using on
  rw [unfrozen, freezeBranches, List.map_map]
  refine List.sum_lt_sum _ _ (fun k _ => ?_) ⟨m, mem, ?_⟩
  · simp only [Function.comp_apply]
    split_ifs <;> simp_all [FillMember.freezeAt]
  · simp [Function.comp_apply, on, overflow, isOpen, FillMember.freezeAt]

/-- A fill whose members are not more than the stages allowed has stages to spare (R102). -/
theorem fillStages_succ_of_unfrozen {b : Budgets} (fuel : Nat) {ms : List FillMember}
    (start : fits b ms 0 = true) (some_open : 0 < unfrozen ms) (enough : unfrozen ms ≤ fuel) :
    fillStages b (fuel + 1) ms = fillStages b fuel ms := by
  induction fuel generalizing ms with
  | zero => omega
  | succ fuel ih =>
    by_cases ends : topLevel b ms = 16383 ∨ b.feeder < totalAt ms (topLevel b ms + 1)
    · rw [fillStages_all _ ends, fillStages_all _ ends]
    · obtain ⟨top, room⟩ := not_or.mp ends
      have room := not_lt.mp room
      rw [fillStages_branches _ top room, fillStages_branches _ top room]
      split
      · rfl
      next more =>
        have fewer := unfrozen_freezeBranches_lt start top room
        exact ih (fits_freezeBranches (fits_topLevel start)) (unfrozen_pos more) (by omega)

theorem fits_fresh (b : Budgets) (ps : List Participant) : fits b (ps.map FillMember.fresh) 0 = true := by
  have none_yet : ∀ l : List FillMember, (∀ m ∈ l, m.frozen = none) → totalAt l 0 = 0 := fun l h =>
    List.sum_eq_zero_iff.mpr (List.forall_mem_map.mpr fun m mem => by
      rw [m.shareAt_zero, FillMember.result, h m mem]
      rfl)
  have fresh : ∀ m ∈ ps.map FillMember.fresh, m.frozen = none := List.forall_mem_map.mpr fun _ _ => rfl
  rw [fits_iff, none_yet _ fresh]
  refine ⟨Nat.zero_le _, fun branch _ => ?_⟩
  rw [branchSumAt, none_yet _ fun m mem => fresh m (List.mem_of_mem_filter mem)]
  exact Nat.zero_le _

theorem unfrozen_fresh (ps : List Participant) : unfrozen (ps.map FillMember.fresh) = ps.length := by
  simp [unfrozen, FillMember.fresh, Function.comp_def]

theorem runFill_nil (b : Budgets) : runFill b [] = (0, []) := rfl

theorem runFill_of_ne_nil (b : Budgets) {ps : List Participant} (some_one : ps ≠ []) :
    runFill b ps = fillStages b ps.length (ps.map FillMember.fresh) :=
  if_neg fun h => some_one (List.isEmpty_iff.mp h)

theorem fillStages_eq_runFill (b : Budgets) {ps : List Participant} (some_one : ps ≠ []) {fuel : Nat}
    (enough : ps.length ≤ fuel) : fillStages b fuel (ps.map FillMember.fresh) = runFill b ps := by
  rw [runFill_of_ne_nil b some_one]
  induction fuel, enough using Nat.le_induction with
  | base => rfl
  | succ fuel enough ih =>
    rw [← ih]
    exact fillStages_succ_of_unfrozen fuel (fits_fresh b ps)
      ((unfrozen_fresh ps).symm ▸ List.length_pos_iff.mpr some_one) ((unfrozen_fresh ps).symm ▸ enough)

theorem runFill_fits (b : Budgets) (ps : List Participant) : fits b (runFill b ps).2 0 = true := by
  by_cases none_in : ps = []
  · subst none_in
    exact fits_fresh b []
  · rw [runFill_of_ne_nil b none_in]
    exact fillStages_fits _ (fits_fresh b ps)

theorem runFill_level (b : Budgets) (ps : List Participant) : (runFill b ps).1 ≤ 16383 := by
  by_cases none_in : ps = []
  · subst none_in
    exact Nat.zero_le _
  · rw [runFill_of_ne_nil b none_in]
    exact fillStages_level b _ _

/-! ### The one participant to exclude (R105) -/

/-- A participant goes before another, or is it as far as weight and pad tell. -/
def Participant.goesBefore (p q : Participant) : Prop :=
  p.weight < q.weight ∨ (p.weight = q.weight ∧ q.pad ≤ p.pad)

theorem Participant.goesBefore_refl (p : Participant) : p.goesBefore p := .inr ⟨rfl, le_rfl⟩

theorem Participant.goesBefore.trans {p q r : Participant} (pq : p.goesBefore q) (qr : q.goesBefore r) :
    p.goesBefore r := by
  unfold Participant.goesBefore at *
  omega

/-- Of two participants the one that is excluded first goes before both. -/
theorem excludedFirst_spec (p q : Participant) :
    (excludedFirst p q = p ∨ excludedFirst p q = q)
      ∧ (excludedFirst p q).goesBefore p ∧ (excludedFirst p q).goesBefore q := by
  unfold excludedFirst Participant.goesBefore
  split
  · exact ⟨.inr rfl, by omega, by omega⟩
  · exact ⟨.inl rfl, by omega, by omega⟩

theorem foldl_excludedFirst_spec (p : Participant) (ps : List Participant) :
    ps.foldl excludedFirst p ∈ p :: ps ∧ ∀ q ∈ p :: ps, (ps.foldl excludedFirst p).goesBefore q := by
  induction ps generalizing p with
  | nil => exact ⟨List.mem_singleton_self p, fun q mem => List.mem_singleton.mp mem ▸ p.goesBefore_refl⟩
  | cons r rs ih =>
    obtain ⟨one, beforeP, beforeR⟩ := excludedFirst_spec p r
    obtain ⟨mem, first⟩ := ih (excludedFirst p r)
    rw [List.foldl_cons]
    constructor
    · rcases List.mem_cons.mp mem with same | later
      · rw [same]
        rcases one with one | one <;> simp [one]
      · exact List.mem_cons_of_mem _ (List.mem_cons_of_mem _ later)
    · have lead := first _ List.mem_cons_self
      simp only [List.forall_mem_cons]
      exact ⟨lead.trans beforeP, lead.trans beforeR, fun q later => first q (List.mem_cons_of_mem _ later)⟩

theorem pickExcluded_spec {ps : List Participant} (some_one : ps ≠ []) :
    ∃ p ∈ ps, pickExcluded ps = some p ∧ ∀ q ∈ ps, p.goesBefore q := by
  obtain ⟨p, ps, rfl⟩ := List.exists_cons_of_ne_nil some_one
  obtain ⟨mem, first⟩ := foldl_excludedFirst_spec p ps
  exact ⟨_, mem, rfl, first⟩

theorem ne_nil_of_pickExcluded {ps : List Participant} {p : Participant} (picked : pickExcluded ps = some p) :
    ps ≠ [] := by
  rintro rfl
  cases picked

/-! ### The fills of a computation (R104 to R107) -/

/-- The pads that a fill excludes where another follows: that of one participant, or all after fill 9. -/
def exclusions (left : Nat) (below : List Participant) : List Nat :=
  if left = 1 then below.map Participant.pad else ((pickExcluded below).map Participant.pad).toList

/-- A fill is the last one, or the next one follows over those that it does not exclude. -/
theorem runFills_succ (b : Budgets) (left : Nat) (ps : List Participant) (excluded : List Nat) :
    runFills b (left + 1) ps excluded =
      if (belowFloorOf (runFill b ps).2).isEmpty || left == 0 then
        { count := 10 - left, level := (runFill b ps).1, members := (runFill b ps).2,
          excluded := excluded ++ (belowFloorOf (runFill b ps).2).map Participant.pad }
      else
        runFills b left (ps.filter fun p => !(exclusions left (belowFloorOf (runFill b ps).2)).contains p.pad)
          (excluded ++ exclusions left (belowFloorOf (runFill b ps).2)) :=
  rfl

theorem runFills_last (b : Budgets) {left : Nat} {ps : List Participant} (excluded : List Nat)
    (last : belowFloorOf (runFill b ps).2 = [] ∨ left = 0) :
    runFills b (left + 1) ps excluded =
      { count := 10 - left, level := (runFill b ps).1, members := (runFill b ps).2,
        excluded := excluded ++ (belowFloorOf (runFill b ps).2).map Participant.pad } :=
  runFills_succ b left ps excluded ▸ if_pos (by simpa using last)

theorem runFills_next (b : Budgets) {left : Nat} {ps : List Participant} (excluded : List Nat)
    (below : belowFloorOf (runFill b ps).2 ≠ []) (more : left ≠ 0) :
    runFills b (left + 1) ps excluded =
      runFills b left (ps.filter fun p => decide (p.pad ∉ exclusions left (belowFloorOf (runFill b ps).2)))
        (excluded ++ exclusions left (belowFloorOf (runFill b ps).2)) := by
  have kept (gone : List Nat) :
      (fun p : Participant => !gone.contains p.pad) = fun p => decide (p.pad ∉ gone) := by
    funext p
    simp
  rw [← kept, runFills_succ, if_neg (by simpa using ⟨below, more⟩)]

theorem runFills_fits (b : Budgets) (left : Nat) (ps : List Participant) (excluded : List Nat) :
    fits b (runFills b left ps excluded).members 0 = true := by
  induction left generalizing ps excluded with
  | zero => exact fits_fresh b []
  | succ left ih =>
    obtain ⟨members, -⟩ | ⟨gone, next⟩ := runFills_succ_cases b left ps excluded
    · rw [members]
      exact runFill_fits b ps
    · rw [next]
      exact ih _ _

theorem runFills_figures (b : Budgets) {left : Nat} (ps : List Participant) (excluded : List Nat)
    (most : left ≤ 10) :
    (runFills b left ps excluded).level ≤ 16383
      ∧ 1 ≤ (runFills b left ps excluded).count ∧ (runFills b left ps excluded).count ≤ 10 := by
  induction left generalizing ps excluded with
  | zero => exact ⟨Nat.zero_le _, show 1 ≤ 10 by decide, le_rfl⟩
  | succ left ih =>
    by_cases last : belowFloorOf (runFill b ps).2 = [] ∨ left = 0
    · rw [runFills_last b excluded last]
      exact ⟨runFill_level b ps, by simp only; omega, by simp only; omega⟩
    · obtain ⟨below, more⟩ := not_or.mp last
      rw [runFills_next b excluded below more]
      exact ih _ _ (by omega)

theorem Participant.setAside_eq (p : Participant) :
    p.setAside = decide (p.request = 0 ∨ p.request < p.floor) :=
  (Bool.decide_or _ _).symm

/-- The row of a participant in the statement's words (R98, R107, R109). -/
theorem FillOutcome.row_eq (out : FillOutcome) (p : Participant) :
    out.row p =
      if decide (p.request = 0 ∨ p.request < p.floor) then
        { pad := p.pad, branch := p.branch, share := 0, disposition := .setAside }
      else if p.pad ∈ out.excluded then
        { pad := p.pad, branch := p.branch, share := 0, disposition := .excluded }
      else
        { pad := p.pad, branch := p.branch
          share := ((out.members.find? fun m => m.part.pad == p.pad).bind FillMember.frozen).getD 0
          disposition := .filled } := by
  have share : ((out.members.find? fun m => m.part.pad == p.pad).map FillMember.result).getD 0 =
      ((out.members.find? fun m => m.part.pad == p.pad).bind FillMember.frozen).getD 0 := by
    cases out.members.find? fun m => m.part.pad == p.pad <;> rfl
  simp only [FillOutcome.row, p.setAside_eq, share, List.contains_iff_mem]

/-- Settles O29: the level is what the search by halves finds, and a stage that ends no fill freezes at least one
member, for which reason the stages that a fill is allowed are enough. -/
theorem fillLevelIsTheLargestThatFits : Obligations.FillLevelIsTheLargestThatFits := by
  refine ⟨fun b ms start => ⟨topLevel_le b ms, fits_topLevel start, fun _ range => le_topLevel range⟩,
    fun ps some_one => pickExcluded_spec some_one, fun m level => ⟨fun h => ?_, fun kw h => ?_⟩,
    fun b ms level => ?_, fun b fuel ms => ?_, runFill_nil,
    fun b ps fuel some_one enough => fillStages_eq_runFill b some_one enough,
    fun b left ps excluded => ⟨runFills_last b excluded, fun p picked more => ?_, fun below one => ?_⟩,
    fun b ps => ?_⟩
  · rw [FillMember.shareAt, h, Option.getD_none]
  · rw [FillMember.shareAt, h, Option.getD_some]
  · exact fits_iff b ms level
  · refine ⟨fillStages_all fuel, fun top room all => ?_, fun top room ⟨m, mem, isOpen⟩ => ?_⟩
    · exact (fillStages_branches fuel top room).trans (if_pos (List.all_eq_true.mpr all))
    · refine (fillStages_branches fuel top room).trans (if_neg fun all => ?_)
      exact absurd (List.all_eq_true.mp all m mem) (by simp [isOpen])
  · have below : belowFloorOf (runFill b ps).2 ≠ [] := ne_nil_of_pickExcluded picked
    have gone : exclusions left (belowFloorOf (runFill b ps).2) = [p.pad] := by
      rw [exclusions, if_neg (by omega), show pickExcluded (belowFloorOf (runFill b ps).2) = some p from picked]
      rfl
    rw [runFills_next b excluded below (by omega), gone]
    simp only [List.mem_singleton]
  · have gone : exclusions left (belowFloorOf (runFill b ps).2) =
        (belowFloorOf (runFill b ps).2).map Participant.pad := if_pos one
    rw [runFills_next b excluded below (by omega), gone]
    rfl
  · have aside : (fun p : Participant => !p.setAside) =
        fun p => !decide (p.request = 0 ∨ p.request < p.floor) := by
      funext p
      rw [p.setAside_eq]
    rw [resultRows, fillsOf, aside]
    exact List.map_congr_left fun p _ => FillOutcome.row_eq _ p

end Sys2Proof.Machine
end

section
-- Proofs elaborated in order keep the number of threads within what the check's memory limit allows.
set_option Elab.async false
/-! The results of a computation (R96 to R98, R109, R110): the shares within the budgets, and what is published. -/

namespace Sys2Proof.Machine

/-! ### The shares within the budgets (R109) -/

/-- Figures that are each 0, or the value of an entry under a key of their own, sum to no more than all the
entries do. -/
theorem sum_le_sum_of_keys {α β : Type} {keyOf : α → Nat} {figure : α → Nat} {key value : β → Nat}
    {as : List α} {bs : List β} (distinct : as.Pairwise fun a a' => keyOf a ≠ keyOf a')
    (found : ∀ a ∈ as, figure a = 0 ∨ ∃ b ∈ bs, key b = keyOf a ∧ figure a = value b) :
    (as.map figure).sum ≤ (bs.map value).sum := by
  induction as generalizing bs with
  | nil => exact Nat.zero_le _
  | cons a as ih =>
    obtain ⟨apart, distinct⟩ := List.pairwise_cons.mp distinct
    have split := ((List.filter_append_perm (fun b => key b == keyOf a) bs).map value).sum_eq
    rw [List.map_append, List.sum_append] at split
    have first : figure a ≤ ((bs.filter fun b => key b == keyOf a).map value).sum := by
      rcases found a List.mem_cons_self with zero | ⟨b, mem, same, eq⟩
      · omega
      · rw [eq]
        exact List.le_sum_of_mem (List.mem_map_of_mem (List.mem_filter.mpr ⟨mem, beq_iff_eq.mpr same⟩))
    have rest := ih (bs := bs.filter fun b => !(key b == keyOf a)) distinct fun a' mem' => by
      refine (found a' (List.mem_cons_of_mem _ mem')).imp_right fun ⟨b, mem, same, eq⟩ => ⟨b, ?_, same, eq⟩
      exact List.mem_filter.mpr ⟨mem, by simpa [same] using (apart a' mem').symm⟩
    rw [List.map_cons, List.sum_cons]
    omega

theorem Snapshot.participants_ascending (snap : Snapshot) (own : Option Nat) (branch : Nat) :
    (snap.participants own branch).Pairwise fun p q => p.pad < q.pad := by
  rw [Snapshot.participants_eq]
  refine List.Pairwise.filterMap _ (fun pad pad' less p atPad p' atPad' => ?_) List.pairwise_lt_range
  rw [Snapshot.pad_of_participantAt atPad, Snapshot.pad_of_participantAt atPad']
  exact less

/-- The rows of some participants sum to no more than the members that hold their shares. -/
theorem FillOutcome.rows_sum_le {out : FillOutcome} {ps : List Participant} {ms : List FillMember}
    (ascending : ps.Pairwise fun p q => p.pad < q.pad)
    (held : ∀ p ∈ ps, ∀ m ∈ out.members, m.part.pad = p.pad → m ∈ ms) :
    ((ps.map out.row).map ResultRow.share).sum ≤ totalAt ms 0 := by
  rw [List.map_map, totalAt]
  refine sum_le_sum_of_keys (keyOf := Participant.pad) (key := fun m => m.part.pad)
    (ascending.imp fun less => less.ne) fun p mem => ?_
  refine (out.row_share_cases p).imp_right fun ⟨_, m, memM, onPad, share⟩ => ?_
  exact ⟨m, held p mem m memM onPad, onPad, share.trans m.shareAt_zero.symm⟩

/-- Settles O28: the members' frozen shares fit, as every stage of a fill keeps them, and a row's share is that of
a member of its own. -/
theorem sharesStayWithinTheBudgets : Obligations.SharesStayWithinTheBudgets := by
  intro snap s held computing taken
  let ps := snap.participants s.standing.pad s.cfg.branch
  have ascending : ps.Pairwise fun p q => p.pad < q.pad := snap.participants_ascending _ _
  have fit := (fits_iff _ _ _).mp (runFills_fits s.limit.budgets Config.maxFills
    (ps.filter fun p => !p.setAside) [])
  refine ⟨s.complete snap, exec_completion held computing taken, ?_, fun branch inside => ?_⟩
  · exact (FillOutcome.rows_sum_le ascending fun _ _ _ mem _ => mem).trans fit.1
  · refine le_trans ?_ (fit.2 branch inside)
    have rows : (resultRows s.limit.budgets ps).filter (fun r => r.branch == branch) =
        (ps.filter fun p => p.branch == branch).map (fillsOf s.limit.budgets ps).row := by
      rw [resultRows, List.filter_map]
      congr 1
      exact List.filter_congr fun p _ => by rw [Function.comp_apply, FillOutcome.row_branch]
    refine le_trans (le_of_eq (congrArg (fun l => (l.map ResultRow.share).sum) rows)) ?_
    refine FillOutcome.rows_sum_le (ascending.filter _) fun p memP m memM onPad => ?_
    obtain ⟨memP, on⟩ := List.mem_filter.mp memP
    obtain rfl := Snapshot.participants_pad_inj (fillsOf_sound _ _ m memM).1 memP onPad
    exact List.mem_filter.mpr ⟨memM, on⟩

/-! ### Who takes part (R96, R97) -/

theorem Entry.participant_eq_some {e : Entry} {pad : Nat} {p : Participant} :
    e.participant pad = some p ↔
      ∃ c, e.claim = some c ∧ (e.state = .live ∧ e.heard = true ∧ c.kind = .active)
        ∧ participantOf pad c.branch c = p := by
  unfold Entry.participant
  cases e.claim with
  | none => simp
  | some c => simp [Option.ite_none_right_eq_some]

theorem Snapshot.ownParticipant_eq_some {snap : Snapshot} {pad branch : Nat} {p : Participant} :
    snap.ownParticipant pad branch = some p ↔
      (snap.echo ≠ .notSent ∧ snap.own.kind = .active) ∧ participantOf pad branch snap.own = p := by
  simp [Snapshot.ownParticipant, Option.ite_none_right_eq_some]

theorem Snapshot.participantAt_own {snap : Snapshot} {own : Option Nat} {branch pad : Nat}
    (self : own = some pad) : snap.participantAt own branch pad = snap.ownParticipant pad branch :=
  if_pos self.symm

theorem Snapshot.participantAt_peer {snap : Snapshot} {own : Option Nat} {branch pad : Nat}
    (peer : own ≠ some pad) :
    snap.participantAt own branch pad = (snap.entries.getD pad Entry.blank).participant pad :=
  if_neg (Ne.symm peer)

/-- The pads of the result rows are those that have a participant. -/
theorem exists_row_iff {b : Budgets} {snap : Snapshot} {own : Option Nat} {branch pad : Nat}
    (inside : pad < 36) :
    (∃ row ∈ resultRows b (snap.participants own branch), row.pad = pad) ↔
      ∃ p, snap.participantAt own branch pad = some p := by
  constructor
  · rintro ⟨row, mem, rfl⟩
    obtain ⟨p, memP, rfl⟩ := List.mem_map.mp mem
    rw [FillOutcome.row_pad]
    exact ⟨p, (Snapshot.mem_participants.mp memP).2⟩
  · rintro ⟨p, atPad⟩
    obtain rfl := Snapshot.pad_of_participantAt atPad
    exact ⟨_, List.mem_map_of_mem (Snapshot.mem_participants.mpr ⟨inside, atPad⟩), FillOutcome.row_pad _ p⟩

/-! ### The rows -/

theorem resultRows_pads (b : Budgets) (ps : List Participant) :
    (resultRows b ps).map ResultRow.pad = ps.map Participant.pad := by
  simp [resultRows, Function.comp_def]

theorem resultRows_unique {b : Budgets} {snap : Snapshot} {own : Option Nat} {branch : Nat} {r r' : ResultRow}
    (mem : r ∈ resultRows b (snap.participants own branch))
    (mem' : r' ∈ resultRows b (snap.participants own branch)) (same : r.pad = r'.pad) : r = r' := by
  obtain ⟨p, memP, rfl⟩ := List.mem_map.mp mem
  obtain ⟨p', memP', rfl⟩ := List.mem_map.mp mem'
  rw [FillOutcome.row_pad, FillOutcome.row_pad] at same
  rw [Snapshot.participants_pad_inj memP memP' same]

/-- A participant that is set aside gets a row without a share (R98). -/
theorem FillOutcome.row_of_setAside {out : FillOutcome} {p : Participant}
    (aside : p.request = 0 ∨ p.request < p.floor) :
    (out.row p).share = 0 ∧ (out.row p).disposition = .setAside := by
  rw [FillOutcome.row_eq, if_pos (decide_eq_true aside)]
  exact ⟨rfl, rfl⟩

theorem shareOf_isSome_iff {rows : List ResultRow} {pad : Nat} :
    (shareOf rows pad).isSome = true ↔ ∃ row ∈ rows, row.pad = pad := by
  simp [shareOf]

/-- The own share and participation that are published are those of the own pad's row. -/
theorem published_own {s : State} {ps : List Participant} {pad : Nat} (own : s.standing.pad = some pad) :
    (s.results ps).ownShare = (shareOf (resultRows s.limit.budgets ps) pad).getD 0
      ∧ (s.results ps).ownParticipant = (shareOf (resultRows s.limit.budgets ps) pad).isSome := by
  have bound : s.standing.pad.bind (shareOf (resultRows s.limit.budgets ps)) =
      shareOf (resultRows s.limit.budgets ps) pad := by rw [own]; rfl
  exact ⟨congrArg (Option.getD · 0) bound, congrArg Option.isSome bound⟩

theorem published_own_absent {s : State} {ps : List Participant}
    (absent : ∀ row ∈ resultRows s.limit.budgets ps, s.standing.pad ≠ some row.pad) :
    (s.results ps).ownShare = 0 ∧ (s.results ps).ownParticipant = false := by
  have none_own : s.standing.pad.bind (shareOf (resultRows s.limit.budgets ps)) = none := by
    cases own : s.standing.pad with
    | none => rfl
    | some pad => exact shareOf_of_absent fun row mem same => absent row mem (same ▸ own)
  exact ⟨congrArg (Option.getD · 0) none_own, congrArg Option.isSome none_own⟩

/-- Settles O26: the rows are those of the participants, one for each pad that has one, and the figures published are
those of the fills over them. -/
theorem completionPublishesTheResults : Obligations.CompletionPublishesTheResults := by
  intro snap s held computing taken
  let ps := snap.participants s.standing.pad s.cfg.branch
  have count := runFills_figures s.limit.budgets (ps.filter fun p => !p.setAside) [] (left := 10) le_rfl
  refine ⟨s.complete snap, exec_completion held computing taken, ?_, fun pad inside peer => ?_,
    fun pad inside own => ⟨?_, ?_, fun row mem same => ?_⟩, fun absent => published_own_absent absent,
    fun row mem => ?_, ?_, rfl, fun p mem => ⟨fun peer => ?_, fun own => ?_⟩,
    fun p mem aside row memRow same => ?_, ?_, count.2.1, count.2.2, count.1, ?_, rfl, rfl, rfl, rfl, rfl, rfl⟩
  · exact (resultRows_pads _ ps).symm ▸ List.pairwise_map.mpr (snap.participants_ascending _ _)
  · refine (exists_row_iff inside).trans ?_
    simp only [Snapshot.participantAt_peer peer, Entry.participant_eq_some]
    tauto
  · refine (exists_row_iff inside).trans ?_
    simp [Snapshot.participantAt_own own, Snapshot.ownParticipant_eq_some]
  · exact (published_own own).2 ▸ shareOf_isSome_iff
  · subst same
    have share := shareOf_of_unique mem fun other memO => resultRows_unique memO mem
    exact (published_own own).1.trans (congrArg (Option.getD · 0) share)
  · obtain ⟨p, memP, rfl⟩ := List.mem_map.mp mem
    exact (FillOutcome.row_pad _ p).symm ▸ (Snapshot.mem_participants.mp memP).1
  · show ((resultRows s.limit.budgets ps).map fun r => (r.pad, r.branch)) = ps.map fun p => (p.pad, p.branch)
    simp [resultRows, Function.comp_def]
  · have atPad := (Snapshot.mem_participants.mp mem).2
    rw [Snapshot.participantAt_peer peer, Entry.participant_eq_some] at atPad
    obtain ⟨c, claim, -, eq⟩ := atPad
    exact ⟨c, claim, eq.symm⟩
  · have atPad := (Snapshot.mem_participants.mp mem).2
    rw [Snapshot.participantAt_own own, Snapshot.ownParticipant_eq_some] at atPad
    exact atPad.2.symm
  · have same' := resultRows_unique memRow (List.mem_map_of_mem mem) (same.trans (FillOutcome.row_pad _ p).symm)
    rw [same']
    exact FillOutcome.row_of_setAside aside
  · exact (List.length_map _).symm
  · exact ⟨rfl, rfl⟩

end Sys2Proof.Machine
end

section
-- Proofs elaborated in order keep the number of threads within what the check's memory limit allows.
set_option Elab.async false
/-! The turn planner (R135 to R137): the candidates and their order, the SWITCHED claims, and the walk. -/

namespace Sys2Proof.Machine

/-! ### Candidates and SWITCHED claims (R135, R136) -/

theorem Entry.candidate_eq_some {e : Entry} {pad : Nat} {c : Candidate} :
    e.candidate pad = some c ↔
      e.state = .live ∧ e.heard = true ∧ ∃ claim, e.claim = some claim ∧ claim.intent = .connect
        ∧ c = { pad := pad, branch := claim.branch, age := claim.intentAge } := by
  unfold Entry.candidate
  cases e.claim with
  | none => simp
  | some claim =>
    simp only [Option.ite_none_right_eq_some, Option.some.injEq, exists_eq_left', and_assoc, eq_comm (a := c)]

theorem Entry.switchedClaim_eq_some {e : Entry} {pad : Nat} {c : SwitchedClaim} :
    e.switchedClaim pad = some c ↔
      e.heard = true ∧ ∃ claim, e.claim = some claim ∧ claim.intent = .switched
        ∧ c = { pad := pad, branch := claim.branch } := by
  unfold Entry.switchedClaim
  cases e.claim with
  | none => simp
  | some claim =>
    simp only [Option.ite_none_right_eq_some, Option.some.injEq, exists_eq_left', and_assoc, eq_comm (a := c)]

theorem Snapshot.ownSwitched_eq_some {snap : Snapshot} {pad branch : Nat} {c : SwitchedClaim} :
    snap.ownSwitched pad branch = some c ↔
      snap.echo ≠ .notSent ∧ snap.own.intent = .switched ∧ c = { pad := pad, branch := branch } := by
  simp only [Snapshot.ownSwitched, Option.ite_none_right_eq_some, Option.some.injEq, and_assoc, eq_comm (a := c)]

/-- What is gathered pad by pad: the peers' items, and the own item on the own pad. -/
theorem mem_filterMap_pads {α : Type} {own : Option Nat} {ownItem peerItem : Nat → Option α} {x : α} :
    (x ∈ (List.range Config.pads).filterMap fun p => if some p = own then ownItem p else peerItem p) ↔
      (∃ p < 36, own ≠ some p ∧ peerItem p = some x) ∨ ∃ p < 36, own = some p ∧ ownItem p = some x := by
  simp only [List.mem_filterMap, List.mem_range]
  constructor
  · rintro ⟨p, inside, item⟩
    split at item
    next self => exact .inr ⟨p, inside, self.symm, item⟩
    next peer => exact .inl ⟨p, inside, Ne.symm peer, item⟩
  · rintro (⟨p, inside, peer, item⟩ | ⟨p, inside, self, item⟩)
    · exact ⟨p, inside, (if_neg (Ne.symm peer)).trans item⟩
    · exact ⟨p, inside, (if_pos self.symm).trans item⟩

theorem Snapshot.mem_candidates {snap : Snapshot} {own : Option Nat} {ownCandidate : Option Candidate}
    {c : Candidate} :
    c ∈ snap.candidates own ownCandidate ↔
      (∃ pad < 36, own ≠ some pad ∧ (snap.entries.getD pad Entry.blank).state = .live
        ∧ (snap.entries.getD pad Entry.blank).heard = true
        ∧ ∃ claim, (snap.entries.getD pad Entry.blank).claim = some claim ∧ claim.intent = .connect
          ∧ c = { pad := pad, branch := claim.branch, age := claim.intentAge })
      ∨ (∃ pad < 36, own = some pad) ∧ ownCandidate = some c := by
  simp only [Snapshot.candidates, mem_filterMap_pads, Entry.candidate_eq_some, ← and_assoc, exists_and_right]

theorem Snapshot.mem_switchedClaims {snap : Snapshot} {own : Option Nat} {branch : Nat} {c : SwitchedClaim} :
    c ∈ snap.switchedClaims own branch ↔
      (∃ p < 36, own ≠ some p ∧ (snap.entries.getD p Entry.blank).heard = true
        ∧ ∃ claim, (snap.entries.getD p Entry.blank).claim = some claim ∧ claim.intent = .switched
          ∧ c = { pad := p, branch := claim.branch })
      ∨ ∃ p < 36, own = some p ∧ snap.echo ≠ .notSent ∧ snap.own.intent = .switched
        ∧ c = { pad := p, branch := branch } := by
  rw [Snapshot.switchedClaims, mem_filterMap_pads]
  simp only [Entry.switchedClaim_eq_some, Snapshot.ownSwitched_eq_some]

/-- The branches that a claim heard with SWITCHED blocks (R136). -/
theorem Snapshot.mem_blocked {snap : Snapshot} {own : Option Nat} {ownBranch branch : Nat} :
    branch ∈ (snap.switchedClaims own ownBranch).map SwitchedClaim.branch ↔
      (∃ pad < 36, own ≠ some pad
        ∧ ∃ claim, (snap.entries.getD pad Entry.blank).claim = some claim
          ∧ (snap.entries.getD pad Entry.blank).heard = true ∧ claim.intent = .switched
          ∧ claim.branch = branch)
      ∨ (∃ pad < 36, own = some pad) ∧ snap.echo ≠ .notSent ∧ snap.own.intent = .switched
        ∧ ownBranch = branch := by
  rw [List.mem_map]
  constructor
  · rintro ⟨c, mem, rfl⟩
    obtain ⟨p, inside, peer, hear, claim, found, switched, rfl⟩ | ⟨p, inside, self, sent, switched, rfl⟩ :=
      Snapshot.mem_switchedClaims.mp mem
    · exact .inl ⟨p, inside, peer, claim, found, hear, switched, rfl⟩
    · exact .inr ⟨⟨p, inside, self⟩, sent, switched, rfl⟩
  · rintro (⟨p, inside, peer, claim, found, hear, switched, rfl⟩ | ⟨⟨p, inside, self⟩, sent, switched, rfl⟩)
    · exact ⟨_, Snapshot.mem_switchedClaims.mpr (.inl ⟨p, inside, peer, hear, claim, found, switched, rfl⟩), rfl⟩
    · exact ⟨_, Snapshot.mem_switchedClaims.mpr (.inr ⟨p, inside, self, sent, switched, rfl⟩), rfl⟩

/-! ### The candidate order (R137) -/

/-- A candidate stands before another in the order, or they tell no difference. -/
def Candidate.notAfter (a b : Candidate) : Prop := b.age < a.age ∨ (a.age = b.age ∧ a.pad ≤ b.pad)

theorem Candidate.notAfter.trans {a b c : Candidate} (ab : a.notAfter b) (bc : b.notAfter c) : a.notAfter c := by
  unfold Candidate.notAfter at *
  omega

theorem Candidate.notAfter_of_before {a b : Candidate} (h : a.before b = true) : a.notAfter b := by
  simp only [Candidate.before, Bool.or_eq_true, Bool.and_eq_true, decide_eq_true_eq] at h
  unfold Candidate.notAfter
  omega

theorem Candidate.notAfter_of_not_before {a b : Candidate} (h : ¬ a.before b = true) : b.notAfter a := by
  simp only [Candidate.before, Bool.or_eq_true, Bool.and_eq_true, decide_eq_true_eq] at h
  unfold Candidate.notAfter
  omega

theorem insertCandidate_ordered (c : Candidate) {ds : List Candidate} (ordered : ds.Pairwise Candidate.notAfter) :
    (insertCandidate c ds).Pairwise Candidate.notAfter := by
  induction ds with
  | nil => exact List.pairwise_singleton _ c
  | cons d ds ih =>
    obtain ⟨first, rest⟩ := List.pairwise_cons.mp ordered
    unfold insertCandidate
    split
    next before =>
      have lead := Candidate.notAfter_of_before before
      exact List.pairwise_cons.mpr ⟨List.forall_mem_cons.mpr ⟨lead, fun e mem => lead.trans (first e mem)⟩, ordered⟩
    next behind =>
      refine List.pairwise_cons.mpr ⟨fun e mem => ?_, ih rest⟩
      rcases List.mem_cons.mp ((insertCandidate_perm c ds).mem_iff.mp mem) with rfl | mem
      · exact Candidate.notAfter_of_not_before behind
      · exact first e mem

theorem orderCandidates_ordered (cs : List Candidate) : (orderCandidates cs).Pairwise Candidate.notAfter := by
  induction cs with
  | nil => exact List.Pairwise.nil
  | cons c cs ih => exact insertCandidate_ordered c ih

/-! ### The walk (R137) -/

section Walk

variable {curtailed : Bool} {blocked : List Nat}

theorem getsTurn_iff {given : List Candidate} {c : Candidate} :
    getsTurn curtailed blocked given c = true ↔
      curtailed = false ∧ c.branch ∉ blocked ∧ c.branch ∉ given.map Candidate.branch ∧ given.length < 2 := by
  simp only [getsTurn, Bool.and_eq_true, Bool.not_eq_true', decide_eq_true_eq, List.contains_eq_mem,
    decide_eq_false_iff_not, and_assoc]

theorem walkTurns_cons (given : List Candidate) (c : Candidate) (cs : List Candidate) :
    walkTurns curtailed blocked given (c :: cs) =
      walkTurns curtailed blocked (if getsTurn curtailed blocked given c then given ++ [c] else given) cs := by
  rw [walkTurns]
  split <;> rfl

theorem walkTurns_append (given cs ds : List Candidate) :
    walkTurns curtailed blocked given (cs ++ ds) =
      walkTurns curtailed blocked (walkTurns curtailed blocked given cs) ds := by
  induction cs generalizing given with
  | nil => rfl
  | cons c cs ih => rw [List.cons_append, walkTurns_cons, walkTurns_cons, ih]

/-- The turns given are candidates of the order, in its order. -/
theorem walkTurns_sublist (given cs : List Candidate) :
    (walkTurns curtailed blocked given cs).Sublist (given ++ cs) := by
  induction cs generalizing given with
  | nil => exact (List.append_nil given).symm ▸ List.Sublist.refl given
  | cons c cs ih =>
    rw [walkTurns_cons]
    refine (ih _).trans ?_
    split
    · simp
    · exact (List.sublist_cons_self c cs).append_left given

/-- At most two turns, one to a branch, none on a blocked branch, and none under curtailment. -/
def FairTurns (curtailed : Bool) (blocked : List Nat) (given : List Candidate) : Prop :=
  given.length ≤ 2 ∧ (given.map Candidate.branch).Nodup ∧ (curtailed = true → given = [])
    ∧ ∀ c ∈ given, c.branch ∉ blocked

theorem FairTurns.append {given : List Candidate} {c : Candidate} (fair : FairTurns curtailed blocked given)
    (gets : getsTurn curtailed blocked given c = true) : FairTurns curtailed blocked (given ++ [c]) := by
  obtain ⟨-, distinct, -, off⟩ := fair
  obtain ⟨calm, unblocked, fresh, few⟩ := getsTurn_iff.mp gets
  refine ⟨by simpa using few, ?_, fun curtails => absurd (calm.symm.trans curtails) nofun, fun d mem => ?_⟩
  · rw [List.map_append, List.nodup_append]
    exact ⟨distinct, List.nodup_singleton _, fun b mem b' mem' same => fresh (by simp_all)⟩
  · rcases List.mem_append.mp mem with mem | mem
    · exact off d mem
    · exact List.mem_singleton.mp mem ▸ unblocked

theorem walkTurns_fair {given : List Candidate} (fair : FairTurns curtailed blocked given) (cs : List Candidate) :
    FairTurns curtailed blocked (walkTurns curtailed blocked given cs) := by
  induction cs generalizing given with
  | nil => exact fair
  | cons c cs ih =>
    rw [walkTurns_cons]
    split
    next gets => exact ih (fair.append gets)
    · exact ih fair

/-- A candidate without a turn was refused one by the turns of those before it. -/
theorem mem_walkTurns_or_refused (before : List Candidate) (c : Candidate) (after : List Candidate) :
    c ∈ walkTurns curtailed blocked [] (before ++ c :: after)
      ∨ ¬getsTurn curtailed blocked (walkTurns curtailed blocked [] before) c = true := by
  by_cases gets : getsTurn curtailed blocked (walkTurns curtailed blocked [] before) c = true
  · rw [walkTurns_append, walkTurns_cons, if_pos gets]
    exact .inl ((walkTurns_prefix _ _ _ after).mem (by simp))
  · exact .inr gets

/-- The turns of a part of the order are among those of the whole. -/
theorem walkTurns_subset (before after : List Candidate) :
    walkTurns curtailed blocked [] before ⊆ walkTurns curtailed blocked [] (before ++ after) := by
  rw [walkTurns_append]
  exact (walkTurns_prefix _ _ _ after).subset

/-- Why a candidate has no turn, by what is given to those before it. -/
theorem turn_or_reason (before : List Candidate) (c : Candidate) (after : List Candidate) :
    let given := walkTurns curtailed blocked [] (before ++ c :: after)
    c ∈ given ∨ curtailed = true ∨ c.branch ∈ blocked
      ∨ (∃ d ∈ before, d ∈ given ∧ d.branch = c.branch) ∨ 2 ≤ (before.filter fun d => d ∈ given).length := by
  intro given
  have part := walkTurns_sublist (curtailed := curtailed) (blocked := blocked) [] before
  have kept := walkTurns_subset (curtailed := curtailed) (blocked := blocked) before (c :: after)
  rcases mem_walkTurns_or_refused (curtailed := curtailed) (blocked := blocked) before c after with turn | refused
  · exact .inl turn
  · rw [getsTurn_iff] at refused
    by_cases taken : c.branch ∈ (walkTurns curtailed blocked [] before).map Candidate.branch
    · obtain ⟨d, mem, same⟩ := List.mem_map.mp taken
      exact .inr (.inr (.inr (.inl ⟨d, part.subset mem, kept mem, same⟩)))
    · by_cases few : (walkTurns curtailed blocked [] before).length < 2
      · cases curtails : curtailed with
        | true => exact .inr (.inl rfl)
        | false => exact .inr (.inr (.inl (by_contra fun off => refused ⟨curtails, off, taken, few⟩)))
      · have filtered := part.filter fun d => decide (d ∈ given)
        rw [List.filter_eq_self.mpr fun d mem => decide_eq_true (kept mem)] at filtered
        exact .inr (.inr (.inr (.inr ((not_lt.mp few).trans filtered.length_le))))

/-- Where a turn is left and nothing is curtailed, a candidate has one, or its branch has. -/
theorem turn_or_branch {order : List Candidate} {c : Candidate} (mem : c ∈ order) (calm : curtailed = false)
    (left : (walkTurns curtailed blocked [] order).length < 2) :
    let given := walkTurns curtailed blocked [] order
    c ∈ given ∨ c.branch ∈ given.map Candidate.branch ∨ c.branch ∈ blocked := by
  obtain ⟨before, after, rfl⟩ := List.append_of_mem mem
  have early : (walkTurns curtailed blocked [] before).length ≤ _ :=
    (walkTurns_prefix curtailed blocked (walkTurns curtailed blocked [] before) (c :: after)).length_le
  rw [← walkTurns_append] at early
  rcases mem_walkTurns_or_refused (curtailed := curtailed) (blocked := blocked) before c after with turn | refused
  · exact .inl turn
  · rw [getsTurn_iff] at refused
    by_cases off : c.branch ∈ blocked
    · exact .inr (.inr off)
    · refine .inr (.inl (List.map_subset _ (walkTurns_subset before (c :: after)) ?_))
      exact by_contra fun fresh => refused ⟨calm, off, fresh, early.trans_lt left⟩

end Walk

/-! ### The fields that a turn decision writes -/

/-- The state with the fields that the own turn and the held events write taken from another. -/
def State.withDecided (s t : State) : State :=
  { s with
    session :=
      { s.session with
        state := t.session.state, overdrawRun := t.session.overdrawRun, held := t.session.held }
    seq := { s.seq with phase := t.seq.phase, openMode := t.seq.openMode }
    due := { s.due with overdraw := t.due.overdraw, reportLost := t.due.reportLost }
    port := { s.port with waiting := t.port.waiting, response := t.port.response, readPos := t.port.readPos }
    notices := t.notices
    free := t.free }

/-- Nothing but those fields is written. -/
def State.Decided (s t : State) : Prop := t = s.withDecided t

namespace State.Decided

variable {s t u : State}

theorem refl (s : State) : s.Decided s := rfl

theorem trans (a : s.Decided t) (b : t.Decided u) : s.Decided u :=
  calc u = t.withDecided u := b
    _ = (s.withDecided t).withDecided u := congrArg (State.withDecided · u) a
    _ = s.withDecided u := rfl

theorem ite {p : Prop} [Decidable p] (yes : p → s.Decided t) (no : ¬p → s.Decided u) :
    s.Decided (if p then t else u) := by
  split
  · exact yes ‹_›
  · exact no ‹_›

theorem turn_eq (a : s.Decided t) : t.turn = s.turn := (congrArg State.turn a :)

end State.Decided

theorem State.answerWaiting_decided (s : State) (frame : List Byte) : s.Decided (s.answerWaiting frame) := rfl

/-- A change of the session state leaves the intent age, but on entry into INTENT (R134). -/
theorem State.setSession_decided (s : State) {n : SessionState} (c : Cause)
    (enters : n = .intent → s.session.state = .intent) : s.Decided (s.setSession n c) := by
  have turn : (s.setSession n c).turn = s.turn := by
    rw [State.setSession_turn, if_neg fun ⟨intent, other⟩ => other (enters intent)]
  exact State.ext rfl rfl rfl rfl rfl rfl rfl rfl rfl rfl rfl rfl rfl turn rfl rfl rfl rfl rfl rfl rfl

theorem State.withSeq_decided (s : State) (phase : Phase) (mode : OpenMode) :
    s.Decided { s with seq := { s.seq with phase := phase, openMode := mode } } := rfl

theorem Seq.requestOpen_ite (q : Seq) (p : Prop) [Decidable p] (m : OpenMode) :
    (if p then q.requestOpen m else q) = { q with openMode := (if p then q.requestOpen m else q).openMode } := by
  split <;> rfl

theorem State.takeEnd_decided (s : State) : s.Decided s.takeEnd := by
  have change := s.setSession_decided (n := endTarget s.session.state) .endCommand fun intent => by
    cases state : s.session.state <;> simp_all [endTarget]
  refine change.trans ?_
  rw [State.takeEnd, Seq.requestOpen_ite]
  exact State.withSeq_decided _ _ _

theorem State.takeDockLoss_decided (s : State) : s.Decided s.takeDockLoss := by
  obtain ⟨-, -, -, -, frame⟩ := s.takeDockLoss_spec
  rw [frame]
  rfl

theorem State.takeHeld_decided (s : State) (e : HeldEvent) : s.Decided (s.takeHeld e) := by
  cases e with
  | endCommand => exact .ite (fun _ => s.takeEnd_decided.trans (State.answerWaiting_decided _ _)) fun _ => rfl
  | dockLoss => exact s.takeDockLoss_decided

theorem State.foldl_takeHeld_decided (s : State) (events : List HeldEvent) :
    s.Decided (events.foldl State.takeHeld s) := by
  induction events generalizing s with
  | nil => exact .refl s
  | cons e events ih => exact (s.takeHeld_decided e).trans (ih _)

theorem State.answerDiscardedEnd_decided (s : State) : s.Decided s.answerDiscardedEnd := by
  unfold State.answerDiscardedEnd
  split <;> rfl

theorem State.takeAllHeld_decided (s : State) : s.Decided s.takeAllHeld :=
  (show s.Decided { s with session := { s.session with held := [] } } from rfl).trans
    ((State.foldl_takeHeld_decided _ _).trans (State.answerDiscardedEnd_decided _))

theorem State.handOwnTurn_decided (s : State) : s.Decided s.handOwnTurn := by
  by_cases handed : s.turn.ownTurn = true ∧ s.session.state = .intent ∧ s.turn.barred = false
  · have change := s.setSession_decided (n := .precharge) .turn nofun
    rw [State.handOwnTurn]
    simp only [if_pos handed]
    exact change.trans (State.withSeq_decided _ _ _)
  · rw [State.handOwnTurn]
    simp only [if_neg handed]
    exact s.setSession_decided .turn id

/-! ### TURN_DECISION -/

theorem State.noteClash_eq (s : State) (cs : List SwitchedClaim) :
    s.noteClash cs =
      { s with
        notices :=
          if clashes cs then s.notices.push (s.notice .turnClash (clashPad cs) (some cs.length))
          else s.notices } := by
  unfold State.noteClash
  split <;> rfl

theorem State.planTurns_eq (s : State) (snap : Snapshot) :
    s.planTurns snap =
      { s with
        turn :=
          { s.turn with
            order := (s.planTurns snap).turn.order
            given := (s.planTurns snap).turn.given
            ownTurn := (s.planTurns snap).turn.ownTurn
            deciding := false }
        notices := (s.planTurns snap).notices } := by
  rw [State.planTurns, State.noteClash_eq]

theorem State.planTurns_order (s : State) (snap : Snapshot) :
    (s.planTurns snap).turn.order = orderCandidates (snap.candidates s.standing.pad s.turn.ownCandidate) := by
  rw [State.planTurns, State.noteClash_eq]

theorem State.planTurns_given (s : State) (snap : Snapshot) :
    (s.planTurns snap).turn.given =
      walkTurns s.limit.inForce
        ((snap.switchedClaims s.standing.pad s.cfg.branch).map SwitchedClaim.branch) []
        (s.planTurns snap).turn.order := by
  rw [State.planTurns, State.noteClash_eq]

theorem State.planTurns_ownTurn (s : State) (snap : Snapshot) :
    (s.planTurns snap).turn.ownTurn = (s.planTurns snap).turn.given.any fun c => some c.pad == s.standing.pad := by
  rw [State.planTurns, State.noteClash_eq]

theorem exec_turnDecision {s : State} {snap : Snapshot} (held : s.resetHeld = false)
    (deciding : s.turn.deciding = true) (copied : s.share.snapshot = some snap) :
    exec .turnDecision s = .next (s.planTurns snap).handOwnTurn.takeAllHeld := by
  rw [exec, execTurnDecision, State.act_taken _ held (by simp [State.canDecide, deciding, copied]), copied]

/-- The planner's fields stay while the own turn is handed over and the held events are taken. -/
theorem State.decided_turn (s : State) (snap : Snapshot) :
    (s.planTurns snap).handOwnTurn.takeAllHeld.turn = (s.planTurns snap).turn :=
  ((State.handOwnTurn_decided _).trans (State.takeAllHeld_decided _)).turn_eq

/-- Settles O31: the order is sorted and holds the candidates of the snapshot; the walk adds a candidate only where
nothing speaks against it. -/
theorem turnWalkGivesOnePerBranchAndTwoInAll : Obligations.TurnWalkGivesOnePerBranchAndTwoInAll := by
  intro snap s held deciding copied blocked
  have plan := s.decided_turn snap
  refine ⟨_, exec_turnDecision held deciding copied, ?_⟩
  simp only [plan]
  have off (branch : Nat) :
      branch ∈ (snap.switchedClaims s.standing.pad s.cfg.branch).map SwitchedClaim.branch ↔ blocked branch :=
    Snapshot.mem_blocked
  have order := s.planTurns_order snap
  have given := s.planTurns_given snap
  have fair := walkTurns_fair (curtailed := s.limit.inForce)
    (blocked := (snap.switchedClaims s.standing.pad s.cfg.branch).map SwitchedClaim.branch)
    (given := []) ⟨by decide, List.nodup_nil, fun _ => rfl, nofun⟩ (s.planTurns snap).turn.order
  rw [← given] at fair
  obtain ⟨few, distinct, calm, clear⟩ := fair
  refine ⟨given ▸ walkTurns_sublist [] _, few, distinct, calm, fun c mem => (off _).not.mp (clear c mem),
    fun before c after split => ?_, fun calm left c mem => ?_, order ▸ orderCandidates_ordered _, fun c => ?_,
    fun pad own => ?_, congrArg (fun p : State => p.turn.deciding) (s.planTurns_eq snap)⟩
  · rw [given, split, ← off]
    exact turn_or_reason before c after
  · rw [given] at left ⊢
    rw [← off]
    exact turn_or_branch mem calm left
  · rw [order, (orderCandidates_perm _).mem_iff]
    exact Snapshot.mem_candidates
  · rw [s.planTurns_ownTurn, own]
    simp

end Sys2Proof.Machine
end

section
-- Proofs elaborated in order keep the number of threads within what the check's memory limit allows.
set_option Elab.async false
/-! The turn decision (R136, R138, R139, R144, R160, R161, R181): the clash, the own turn, and the held events in
the order in which they arrived. -/

namespace Sys2Proof.Machine

/-! ### The clash (R139) -/

theorem Snapshot.switchedClaims_ascending (snap : Snapshot) (own : Option Nat) (branch : Nat) :
    (snap.switchedClaims own branch).Pairwise fun a b => a.pad < b.pad := by
  have padOf {p : Nat} {c : SwitchedClaim}
      (at_ : (if some p = own then snap.ownSwitched p branch
        else (snap.entries.getD p Entry.blank).switchedClaim p) = some c) : c.pad = p := by
    split at at_
    · obtain ⟨-, -, rfl⟩ := Snapshot.ownSwitched_eq_some.mp at_
      rfl
    · obtain ⟨-, claim, -, -, rfl⟩ := Entry.switchedClaim_eq_some.mp at_
      rfl
  refine List.Pairwise.filterMap _ (fun p p' less c atP c' atP' => ?_) List.pairwise_lt_range
  rw [padOf atP, padOf atP']
  exact less

/-- The pad of a clash is the lowest one on the lowest branch that carries two SWITCHED claims. -/
theorem clashPad_of_lowest {cs : List SwitchedClaim} (ascending : cs.Pairwise fun a b => a.pad < b.pad)
    {branch : Nat} (inside : branch < 6) (two : 2 ≤ (onBranch cs branch).length)
    (lowest : ∀ lower < branch, (onBranch cs lower).length < 2) :
    ∃ p, clashPad cs = some p ∧ (∃ c ∈ onBranch cs branch, c.pad = p) ∧ ∀ c ∈ onBranch cs branch, p ≤ c.pad := by
  have found : (List.range Config.branches).find? (fun b => decide (2 ≤ (onBranch cs b).length)) = some branch :=
    List.find?_range_eq_some.mpr
      ⟨decide_eq_true two, List.mem_range.mpr inside, fun lower below => by simpa using lowest lower below⟩
  obtain ⟨first, rest, split⟩ := List.exists_cons_of_length_pos (l := onBranch cs branch) (by omega)
  have ordered : (onBranch cs branch).Pairwise fun a b => a.pad < b.pad := ascending.filter _
  rw [split] at ordered
  rw [clashPad, found]
  simp only [split, List.head?_cons, Option.map_some]
  exact ⟨_, rfl, ⟨first, List.mem_cons_self, rfl⟩, List.forall_mem_cons.mpr
    ⟨le_rfl, fun c mem => ((List.pairwise_cons.mp ordered).1 c mem).le⟩⟩

theorem clashPad_of_none {cs : List SwitchedClaim} (few : ∀ branch < 6, (onBranch cs branch).length < 2) :
    clashPad cs = none := by
  have found : (List.range Config.branches).find? (fun b => decide (2 ≤ (onBranch cs b).length)) = none :=
    List.find?_eq_none.mpr fun branch mem => by simpa using few branch (List.mem_range.mp mem)
  rw [clashPad, found]

/-! ### What the held events see and write -/

/-- The session state, the sequencer, the port and the notices: all that the held events act by. -/
structure Held where
  state : SessionState
  seq : Seq
  port : Port
  notices : NoticeQueue

/-- These fields of a state. -/
def State.heldView (s : State) : Held :=
  { state := s.session.state, seq := s.seq, port := s.port, notices := s.notices }

/-- The port after the waiting command's answer, if a command waits. -/
def Port.answered (p : Port) (frame : List Byte) : Port :=
  match p.waiting with
  | some w => p.finishing w frame
  | none => p

theorem State.answerWaiting_port_eq (s : State) (frame : List Byte) :
    (s.answerWaiting frame).port = s.port.answered frame := by
  cases waits : s.port.waiting with
  | none =>
    rw [Port.answered, waits, State.answerWaiting, waits]
    exact Port.ext rfl rfl rfl waits.symm rfl rfl rfl rfl
  | some w => rw [State.answerWaiting_eq s waits, Port.answered, waits]

theorem Port.answered_of_waits {p : Port} {w : PortWait} (waits : p.waiting = some w) (frame : List Byte) :
    p.answered frame = p.finishing w frame := by
  rw [Port.answered, waits]

theorem Port.answered_waiting (p : Port) (frame : List Byte) : (p.answered frame).waiting = none := by
  unfold Port.answered
  split
  · rfl
  · assumption

namespace Held

/-- A held END (R160, R181): it is accepted where the session is charging. -/
def endCharge (s : State) (h : Held) : Held :=
  { state := endTarget h.state
    seq := if h.state = .precharge ∨ h.state = .connected then h.seq.requestOpen .normal else h.seq
    port := h.port.answered (endAnswer h.state.charging (endTarget h.state))
    notices := if h.state.charging then h.notices.push (s.sessionNotice (endTarget h.state) .endCommand)
      else h.notices }

/-- A held dock loss (R161). -/
def dockLoss (s : State) (kwh : Nat) (h : Held) : Held :=
  { state := dockLossTarget h.state
    seq := if dockLossTarget h.state = .stopping then h.seq.requestOpen .forced else h.seq
    port := h.port
    notices := if dockLossTarget h.state = h.state then h.notices.push (s.notice .dockLost none (some kwh))
      else (h.notices.push (s.notice .dockLost none (some kwh))).push
        (s.sessionNotice (dockLossTarget h.state) .dockLost) }

/-- A held event. -/
def take (s : State) (kwh : Nat) (h : Held) : HeldEvent → Held
  | .endCommand => h.endCharge s
  | .dockLoss => h.dockLoss s kwh

/-- The answer of an END that still waits after the held events (R181; log entry 19). -/
def answerEnd (h : Held) : Held :=
  match h.port.waiting with
  | some { command := .endCommand, .. } => { h with port := h.port.answered (responseFrame rspRefusedState []) }
  | _ => h

end Held

theorem State.answerWaiting_heldView (s : State) (frame : List Byte) :
    (s.answerWaiting frame).heldView = { s.heldView with port := s.port.answered frame } := by
  rw [← s.answerWaiting_port_eq frame]
  rfl

theorem State.takeEnd_heldView {s : State} (charges : s.session.state.charging = true) :
    s.takeEnd.heldView = { s.heldView.endCharge s with port := s.port } := by
  cases state : s.session.state with
  | intent =>
    rw [State.takeEnd_of_intent state]
    simp [Held.endCharge, State.heldView, state, endTarget, SessionState.charging]
  | precharge =>
    rw [State.takeEnd_of_charging (.inl state)]
    simp [Held.endCharge, State.heldView, state, endTarget, SessionState.charging]
  | connected =>
    rw [State.takeEnd_of_charging (.inr state)]
    simp [Held.endCharge, State.heldView, state, endTarget, SessionState.charging]
  | vacant | docked | stopping | released | fault =>
    rw [state] at charges
    cases charges

theorem endCharge_of_not_charging {s : State} {h : Held} (rests : h.state.charging = false) :
    h.endCharge s = { h with port := h.port.answered (responseFrame rspRefusedState []) } := by
  have stays : endTarget h.state = h.state := by cases state : h.state <;> simp_all [endTarget, SessionState.charging]
  have seq : ¬(h.state = .precharge ∨ h.state = .connected) := by
    rintro (state | state) <;> rw [state] at rests <;> cases rests
  rw [Held.endCharge, stays, rests, if_neg seq]
  rfl

theorem State.takeHeldEnd_heldView (s : State) : s.takeHeldEnd.heldView = s.heldView.endCharge s := by
  by_cases charges : s.session.state.charging = true
  · rw [State.takeHeldEnd, if_pos charges, State.answerWaiting_heldView, State.takeEnd_heldView charges]
    have answer : endAnswer true s.takeEnd.session.state =
        endAnswer s.session.state.charging (endTarget s.session.state) := by rw [charges]; rfl
    rw [answer]
    rfl
  · rw [State.takeHeldEnd, if_neg charges, State.answerWaiting_heldView,
      endCharge_of_not_charging (Bool.not_eq_true _ ▸ charges)]
    rfl

theorem State.takeDockLoss_heldView (s : State) :
    s.takeDockLoss.heldView = s.heldView.dockLoss s s.dockLostValue := by
  by_cases stays : dockLossTarget s.session.state = s.session.state
  · rw [State.takeDockLoss_of_stays stays]
    simp [State.heldView, Held.dockLoss, stays, State.dockLossSeq, State.dockLostNotice]
  · rw [State.takeDockLoss_of_changes stays]
    simp [State.heldView, Held.dockLoss, stays, State.dockLossSeq, State.dockLostNotice]
    rfl

theorem State.takeHeld_heldView (s : State) (e : HeldEvent) :
    (s.takeHeld e).heldView = s.heldView.take s s.dockLostValue e := by
  cases e with
  | endCommand => exact s.takeHeldEnd_heldView
  | dockLoss => exact s.takeDockLoss_heldView

theorem State.answerDiscardedEnd_heldView (s : State) : s.answerDiscardedEnd.heldView = s.heldView.answerEnd := by
  unfold State.answerDiscardedEnd Held.answerEnd
  cases waits : s.port.waiting with
  | none => simp [State.heldView, waits]
  | some w =>
    obtain ⟨command, lost⟩ := w
    cases command with
    | endCommand =>
      simp only [State.heldView, waits]
      exact s.answerWaiting_heldView _
    | readView | releaseHeld | portReset => simp [State.heldView, waits]

theorem State.takeHeld_held {s : State} (empty : s.session.held = []) (e : HeldEvent) :
    (s.takeHeld e).session.held = [] := by
  cases e with
  | endCommand =>
    have taken : s.takeEnd.session.held = [] := by
      rw [State.takeEnd]
      simp [State.setSession_session_held, empty]
    simp only [State.takeHeld, State.takeHeldEnd]
    split
    · exact taken
    · exact empty
  | dockLoss => exact s.takeDockLoss_spec.1.trans empty

theorem State.foldl_takeHeld_held {s : State} (events : List HeldEvent) (empty : s.session.held = []) :
    (events.foldl State.takeHeld s).session.held = [] := by
  induction events generalizing s with
  | nil => exact empty
  | cons e events ih => exact ih (State.takeHeld_held empty e)

theorem State.answerDiscardedEnd_session (s : State) : s.answerDiscardedEnd.session = s.session := by
  unfold State.answerDiscardedEnd
  split <;> rfl

theorem State.takeAllHeld_held (s : State) : s.takeAllHeld.session.held = [] := by
  rw [State.takeAllHeld, State.answerDiscardedEnd_session]
  exact State.foldl_takeHeld_held _ rfl

/-- The held events one after the other, with the delivered energy of the record. -/
theorem State.foldl_takeHeld_heldView (s : State) {kwh : Nat} (events : List HeldEvent) {u : State}
    (timer : u.timer = s.timer)
    (energy : .dockLoss ∈ events → u.session.record.map Record.delivered = some kwh) :
    (events.foldl State.takeHeld u).heldView = events.foldl (Held.take s kwh) u.heldView := by
  induction events generalizing u with
  | nil => rfl
  | cons e events ih =>
    have decided := u.takeHeld_decided e
    have timer' : (u.takeHeld e).timer = s.timer := (congrArg State.timer decided :).trans timer
    have record : (u.takeHeld e).session.record = u.session.record :=
      (congrArg (fun v : State => v.session.record) decided :)
    rw [List.foldl_cons, List.foldl_cons,
      ih timer' fun later => (congrArg _ record).trans (energy (List.mem_cons_of_mem e later)), u.takeHeld_heldView]
    congr 1
    cases e with
    | endCommand => simp only [Held.take, Held.endCharge, State.sessionNotice, timer]
    | dockLoss =>
      have value : u.dockLostValue = kwh := by
        obtain ⟨r, found, rfl⟩ := Option.map_eq_some_iff.mp (energy List.mem_cons_self)
        exact State.dockLostValue_of_some found
      simp only [Held.take, Held.dockLoss, State.sessionNotice, State.notice, timer, value]

theorem State.takeAllHeld_heldView (s : State) {kwh : Nat} {u : State} (timer : u.timer = s.timer)
    (energy : .dockLoss ∈ u.session.held → u.session.record.map Record.delivered = some kwh) :
    u.takeAllHeld.heldView = (u.session.held.foldl (Held.take s kwh) u.heldView).answerEnd := by
  rw [State.takeAllHeld, State.answerDiscardedEnd_heldView]
  exact congrArg Held.answerEnd (State.foldl_takeHeld_heldView s u.session.held
    (u := { u with session := { u.session with held := [] } }) timer energy)

/-! ### The held events by the session state -/

/-- FORCED replaces any open mode once the phase is not IDLE (R147). -/
theorem Seq.requestOpen_forced_eq {q : Seq} (busy : q.phase ≠ .idle) :
    q.requestOpen .forced = { q with openMode := .forced } := by
  rw [Seq.requestOpen_frame, Seq.requestOpen_forced_of_busy busy]

theorem Seq.requestOpen_normal_eq {q : Seq} (free : q.openMode = .none) (busy : q.phase ≠ .idle) :
    q.requestOpen .normal = { q with openMode := .normal } := by
  rw [Seq.requestOpen_frame, Seq.requestOpen_normal_of_none free busy]

section Steps

variable (s : State) (kwh : Nat) (q : Seq) (p : Port) (n : NoticeQueue)

theorem Held.end_of_intent :
    Held.take s kwh { state := .intent, seq := q, port := p, notices := n } .endCommand =
      { state := .released, seq := q, port := p.answered [0x80, 1, 6]
        notices := n.push (s.sessionNotice .released .endCommand) } := rfl

theorem Held.end_of_precharge :
    Held.take s kwh { state := .precharge, seq := q, port := p, notices := n } .endCommand =
      { state := .stopping, seq := q.requestOpen .normal, port := p.answered [0x80, 1, 5]
        notices := n.push (s.sessionNotice .stopping .endCommand) } := rfl

/-- An END is refused where there is no charge to end (R181). -/
theorem Held.end_of_rest {st : SessionState} (rests : st.charging = false) :
    Held.take s kwh { state := st, seq := q, port := p, notices := n } .endCommand =
      { state := st, seq := q, port := p.answered [0xC1, 0], notices := n } :=
  endCharge_of_not_charging rests

theorem Held.loss_of_intent :
    Held.take s kwh { state := .intent, seq := q, port := p, notices := n } .dockLoss =
      { state := .vacant, seq := q, port := p
        notices := (n.push (s.notice .dockLost none (some kwh))).push (s.sessionNotice .vacant .dockLost) } := rfl

theorem Held.loss_of_released :
    Held.take s kwh { state := .released, seq := q, port := p, notices := n } .dockLoss =
      { state := .vacant, seq := q, port := p
        notices := (n.push (s.notice .dockLost none (some kwh))).push (s.sessionNotice .vacant .dockLost) } := rfl

theorem Held.loss_of_fault :
    Held.take s kwh { state := .fault, seq := q, port := p, notices := n } .dockLoss =
      { state := .fault, seq := q, port := p, notices := n.push (s.notice .dockLost none (some kwh)) } := rfl

theorem Held.loss_of_precharge :
    Held.take s kwh { state := .precharge, seq := q, port := p, notices := n } .dockLoss =
      { state := .stopping, seq := q.requestOpen .forced, port := p
        notices := (n.push (s.notice .dockLost none (some kwh))).push (s.sessionNotice .stopping .dockLost) } := rfl

theorem Held.loss_of_stopping :
    Held.take s kwh { state := .stopping, seq := q, port := p, notices := n } .dockLoss =
      { state := .stopping, seq := q.requestOpen .forced, port := p
        notices := n.push (s.notice .dockLost none (some kwh)) } := rfl

/-- A dock loss after the charge empties the session, but in FAULT (R161). -/
theorem Held.loss_of_ended {st : SessionState} (ended : st = .released ∨ st = .fault) :
    Held.take s kwh { state := st, seq := q, port := p, notices := n } .dockLoss =
      { state := if st = .released then .vacant else .fault, seq := q, port := p
        notices := if st = .released then
            (n.push (s.notice .dockLost none (some kwh))).push (s.sessionNotice .vacant .dockLost)
          else n.push (s.notice .dockLost none (some kwh)) } := by
  obtain rfl | rfl := ended
  · exact Held.loss_of_released s kwh q p n
  · exact Held.loss_of_fault s kwh q p n

/-- A dock loss and an END after the charge: the END is refused before the loss and after it. -/
theorem Held.both_of_ended {st : SessionState} (ended : st = .released ∨ st = .fault) {events : List HeldEvent}
    (both : events = [.endCommand, .dockLoss] ∨ events = [.dockLoss, .endCommand]) :
    events.foldl (Held.take s kwh) { state := st, seq := q, port := p, notices := n } =
      { state := if st = .released then .vacant else .fault, seq := q, port := p.answered [0xC1, 0]
        notices := if st = .released then
            (n.push (s.notice .dockLost none (some kwh))).push (s.sessionNotice .vacant .dockLost)
          else n.push (s.notice .dockLost none (some kwh)) } := by
  obtain rfl | rfl := both
  · have calm : st.charging = false := by obtain rfl | rfl := ended <;> rfl
    rw [List.foldl_cons, Held.end_of_rest _ _ _ _ _ calm, List.foldl_cons, Held.loss_of_ended _ _ _ _ _ ended,
      List.foldl_nil]
  · have calm : (if st = .released then SessionState.vacant else .fault).charging = false := by split <;> rfl
    rw [List.foldl_cons, Held.loss_of_ended _ _ _ _ _ ended, List.foldl_cons, Held.end_of_rest _ _ _ _ _ calm,
      List.foldl_nil]

/-! The lists of held events, from a turn that was handed over and from one that was not. -/

variable {q} in
theorem Held.handed_loss (busy : q.phase ≠ .idle) :
    [HeldEvent.dockLoss].foldl (Held.take s kwh) { state := .precharge, seq := q, port := p, notices := n } =
      { state := .stopping, seq := { q with openMode := .forced }, port := p
        notices := (n.push (s.notice .dockLost none (some kwh))).push (s.sessionNotice .stopping .dockLost) } := by
  rw [List.foldl_cons, Held.loss_of_precharge, List.foldl_nil, Seq.requestOpen_forced_eq busy]

variable {q} in
theorem Held.handed_end_loss (busy : q.phase ≠ .idle) :
    [HeldEvent.endCommand, .dockLoss].foldl (Held.take s kwh)
        { state := .precharge, seq := q, port := p, notices := n } =
      { state := .stopping, seq := { q with openMode := .forced }, port := p.answered [0x80, 1, 5]
        notices := (n.push (s.sessionNotice .stopping .endCommand)).push (s.notice .dockLost none (some kwh)) } := by
  rw [List.foldl_cons, Held.end_of_precharge, List.foldl_cons, Held.loss_of_stopping, List.foldl_nil,
    Seq.requestOpen_forced_eq (by exact busy), Seq.requestOpen_frame]

variable {q} in
theorem Held.handed_loss_end (busy : q.phase ≠ .idle) :
    [HeldEvent.dockLoss, .endCommand].foldl (Held.take s kwh)
        { state := .precharge, seq := q, port := p, notices := n } =
      { state := .stopping, seq := { q with openMode := .forced }, port := p.answered [0xC1, 0]
        notices := (n.push (s.notice .dockLost none (some kwh))).push (s.sessionNotice .stopping .dockLost) } := by
  rw [List.foldl_cons, Held.loss_of_precharge, List.foldl_cons, Held.end_of_rest _ _ _ _ _ (by rfl), List.foldl_nil,
    Seq.requestOpen_forced_eq busy]

theorem Held.kept_end_loss :
    [HeldEvent.endCommand, .dockLoss].foldl (Held.take s kwh)
        { state := .intent, seq := q, port := p, notices := n } =
      { state := .vacant, seq := q, port := p.answered [0x80, 1, 6]
        notices := ((n.push (s.sessionNotice .released .endCommand)).push (s.notice .dockLost none (some kwh))).push
          (s.sessionNotice .vacant .dockLost) } := by
  rw [List.foldl_cons, Held.end_of_intent, List.foldl_cons, Held.loss_of_released, List.foldl_nil]

theorem Held.kept_loss_end :
    [HeldEvent.dockLoss, .endCommand].foldl (Held.take s kwh)
        { state := .intent, seq := q, port := p, notices := n } =
      { state := .vacant, seq := q, port := p.answered [0xC1, 0]
        notices := (n.push (s.notice .dockLost none (some kwh))).push (s.sessionNotice .vacant .dockLost) } := by
  rw [List.foldl_cons, Held.loss_of_intent, List.foldl_cons, Held.end_of_rest _ _ _ _ _ (by rfl), List.foldl_nil]

end Steps

/-! ### The own turn handed over (R138, R144) -/

/-- The notices of the planner: TURN_CLASH where the claims heard clash (R139). -/
theorem State.planTurns_notices (s : State) (snap : Snapshot) :
    (s.planTurns snap).notices =
      let heard := snap.switchedClaims s.standing.pad s.cfg.branch
      if clashes heard then s.notices.push (s.notice .turnClash (clashPad heard) (some heard.length))
      else s.notices := by
  rw [State.planTurns, State.noteClash_eq]

theorem State.handOwnTurn_heldView_of_handed {s : State}
    (handed : s.turn.ownTurn = true ∧ s.session.state = .intent ∧ s.turn.barred = false) :
    s.handOwnTurn.heldView =
      { state := .precharge, seq := { s.seq with phase := .turnTaken }, port := s.port
        notices := s.notices.push (s.sessionNotice .precharge .turn) } := by
  rw [State.handOwnTurn]
  simp only [if_pos handed]
  rw [State.setSession_rest (by simp [handed]) (by decide)]
  rfl

theorem State.handOwnTurn_heldView_of_not {s : State}
    (kept : ¬(s.turn.ownTurn = true ∧ s.session.state = .intent ∧ s.turn.barred = false)) :
    s.handOwnTurn.heldView = s.heldView := by
  rw [State.handOwnTurn]
  simp only [if_neg kept]
  rw [State.setSession_self]
  rfl

theorem State.handOwnTurn_held (s : State) : s.handOwnTurn.session.held = s.session.held := by
  rw [State.handOwnTurn]
  split
  · simp [State.setSession_session_held]
  · simp [State.setSession_session_held]

/-! ### The outcome of the held events -/

/-- A state that has taken what the fields show, and an END that still waits then. -/
def Held.Outcome (t : State) (h : Held) : Prop :=
  t.session.state = h.state ∧ t.seq = h.seq ∧ t.notices = h.notices
    ∧ (h.port.waiting = none → t.port = h.port)
    ∧ ∀ w, h.port.waiting = some w →
      (w.command ≠ .endCommand → t.port = h.port)
        ∧ (w.command = .endCommand → t.port = h.port.finishing w [0xC1, 0])

theorem Held.outcome_of_answerEnd {t : State} {h : Held} (view : t.heldView = h.answerEnd) : h.Outcome t := by
  have rest : t.heldView = { h with port := t.port } ∧ t.port = h.answerEnd.port := by
    refine ⟨?_, congrArg Held.port view⟩
    rw [show t.port = h.answerEnd.port from congrArg Held.port view, view]
    unfold Held.answerEnd
    split <;> rfl
  obtain ⟨fields, port⟩ := rest
  refine ⟨congrArg Held.state fields, congrArg Held.seq fields, congrArg Held.notices fields, fun waits => ?_,
    fun w waits => ⟨fun other => ?_, fun same => ?_⟩⟩
  · rw [port, Held.answerEnd, waits]
  · rw [port, Held.answerEnd, waits]
    obtain ⟨command, lost⟩ := w
    cases command with
    | endCommand => exact absurd rfl other
    | readView | releaseHeld | portReset => rfl
  · obtain ⟨command, lost⟩ := w
    obtain rfl : command = .endCommand := same
    rw [port, Held.answerEnd, waits]
    exact Port.answered_of_waits waits _

section Outcome

variable {t : State} {state : SessionState} {q : Seq} {p : Port} {n : NoticeQueue}

theorem Held.Outcome.fields
    (outcome : Held.Outcome t { state := state, seq := q, port := p, notices := n }) :
    t.session.state = state ∧ t.seq = q ∧ t.notices = n :=
  ⟨outcome.1, outcome.2.1, outcome.2.2.1⟩

/-- An END that has been answered stays answered. -/
theorem Held.Outcome.answered {frame : List Byte}
    (outcome : Held.Outcome t { state := state, seq := q, port := p.answered frame, notices := n }) {w : PortWait}
    (waits : p.waiting = some w) : t.port = p.finishing w frame :=
  (outcome.2.2.2.1 (Port.answered_waiting p frame)).trans (Port.answered_of_waits waits frame)

/-- An END that nothing has answered is refused. -/
theorem Held.Outcome.refused
    (outcome : Held.Outcome t { state := state, seq := q, port := p, notices := n }) {w : PortWait}
    (waits : p.waiting = some w) (ends : w.command = .endCommand) : t.port = p.finishing w [0xC1, 0] :=
  (outcome.2.2.2.2 w waits).2 ends

end Outcome

/-- The session states that no held event leads to a stop from. -/
def SessionState.afterCharge (st : SessionState) : Prop := st = .vacant ∨ st = .released ∨ st = .fault

theorem Held.take_afterCharge {s : State} {kwh : Nat} {h : Held} (rests : h.state.afterCharge) (e : HeldEvent) :
    (h.take s kwh e).state.afterCharge ∧ (h.take s kwh e).seq = h.seq := by
  cases e with
  | endCommand =>
    have calm : h.state.charging = false := by obtain state | state | state := rests <;> rw [state] <;> rfl
    rw [Held.take, endCharge_of_not_charging calm]
    exact ⟨rests, rfl⟩
  | dockLoss =>
    have target : (dockLossTarget h.state).afterCharge ∧ dockLossTarget h.state ≠ .stopping := by
      obtain state | state | state := rests <;> rw [state] <;> simp [dockLossTarget, SessionState.afterCharge]
    exact ⟨target.1, if_neg target.2⟩

theorem State.foldl_takeHeld_afterCharge {u : State} (events : List HeldEvent)
    (rests : u.session.state.afterCharge) : (events.foldl State.takeHeld u).seq = u.seq := by
  induction events generalizing u with
  | nil => rfl
  | cons e events ih =>
    have step := Held.take_afterCharge (s := u) (kwh := u.dockLostValue) (h := u.heldView) rests e
    rw [← u.takeHeld_heldView] at step
    exact (ih step.1).trans step.2

/-- The port changes with a held END only, and not where no command waits. -/
theorem State.takeHeld_port {u : State} {e : HeldEvent} (quiet : e ≠ .endCommand ∨ u.port.waiting = none) :
    (u.takeHeld e).port = u.port := by
  have view := congrArg Held.port (u.takeHeld_heldView e)
  cases e with
  | dockLoss => exact view
  | endCommand =>
    refine view.trans ?_
    have waits := quiet.resolve_left (absurd rfl)
    change u.port.answered _ = u.port
    rw [Port.answered, waits]

theorem State.foldl_takeHeld_port {u : State} {events : List HeldEvent}
    (quiet : .endCommand ∉ events ∨ u.port.waiting = none) : (events.foldl State.takeHeld u).port = u.port := by
  induction events generalizing u with
  | nil => rfl
  | cons e events ih =>
    have step : (u.takeHeld e).port = u.port := State.takeHeld_port <| quiet.imp_left fun absent same =>
      absent (same ▸ List.mem_cons_self)
    rw [List.foldl_cons, ih, step]
    exact quiet.imp (fun absent mem => absent (List.mem_cons_of_mem e mem)) fun waits => step.symm ▸ waits

/-! ### TURN_DECISION -/

section Decision

variable (s : State) (snap : Snapshot)

/-- The state after a turn decision on a snapshot. -/
def State.afterDecision : State := (s.planTurns snap).handOwnTurn.takeAllHeld

theorem State.planTurns_port : (s.planTurns snap).port = s.port := (congrArg State.port (s.planTurns_eq snap) :)

theorem State.planTurns_session : (s.planTurns snap).session = s.session :=
  (congrArg State.session (s.planTurns_eq snap) :)

theorem State.afterDecision_outcome {kwh : Nat}
    (energy : .dockLoss ∈ s.session.held → s.session.record.map Record.delivered = some kwh) :
    (s.session.held.foldl (Held.take s kwh) (s.planTurns snap).handOwnTurn.heldView).Outcome
      (s.afterDecision snap) := by
  have hand := (s.planTurns snap).handOwnTurn_decided
  have session := s.planTurns_session snap
  have timer : (s.planTurns snap).handOwnTurn.timer = s.timer :=
    (congrArg State.timer hand :).trans (congrArg State.timer (s.planTurns_eq snap) :)
  have record : (s.planTurns snap).handOwnTurn.session.record = s.session.record :=
    (congrArg (fun u : State => u.session.record) hand :).trans (congrArg Session.record session :)
  have held : (s.planTurns snap).handOwnTurn.session.held = s.session.held :=
    (State.handOwnTurn_held _).trans (congrArg Session.held session)
  apply Held.outcome_of_answerEnd
  rw [State.afterDecision, State.takeAllHeld_heldView s timer (kwh := kwh), held]
  rw [held, record]
  exact energy

/-- The events of a turn decision, before an END that still waits is answered. -/
theorem State.afterDecision_last :
    (s.session.held.foldl State.takeHeld
      { (s.planTurns snap).handOwnTurn with
        session := { (s.planTurns snap).handOwnTurn.session with held := [] } }).heldView.Outcome
      (s.afterDecision snap) := by
  have held : (s.planTurns snap).handOwnTurn.session.held = s.session.held :=
    (State.handOwnTurn_held _).trans (congrArg Session.held (s.planTurns_session snap))
  rw [← held]
  exact Held.outcome_of_answerEnd (State.answerDiscardedEnd_heldView _)

/-- Where no END is held, the decision answers one that waits, and nothing else. -/
theorem State.afterDecision_port (quiet : .endCommand ∉ s.session.held ∨ s.port.waiting = none) :
    (s.port.waiting = none → (s.afterDecision snap).port = s.port)
      ∧ ∀ w, s.port.waiting = some w →
        (w.command ≠ .endCommand → (s.afterDecision snap).port = s.port)
          ∧ (w.command = .endCommand → (s.afterDecision snap).port = s.port.finishing w [0xC1, 0]) := by
  have hand : (s.planTurns snap).handOwnTurn.port = s.port :=
    (State.handOwnTurn_port _).trans (s.planTurns_port snap)
  obtain ⟨-, -, -, answered⟩ := s.afterDecision_last snap
  have port := State.foldl_takeHeld_port
    (u := { (s.planTurns snap).handOwnTurn with
      session := { (s.planTurns snap).handOwnTurn.session with held := [] } }) (events := s.session.held)
    (by rw [hand]; exact quiet)
  rw [State.heldView, port, hand] at answered
  exact answered

/-- A session that has left the charge keeps the sequencer, whatever is held. -/
theorem State.afterDecision_seq (rests : (s.planTurns snap).handOwnTurn.session.state.afterCharge) :
    (s.afterDecision snap).seq = (s.planTurns snap).handOwnTurn.seq :=
  (s.afterDecision_last snap).2.1.trans (State.foldl_takeHeld_afterCharge _ (by exact rests))

theorem State.afterDecision_frame :
    s.afterDecision snap =
      { s with
        turn :=
          { s.turn with
            order := (s.afterDecision snap).turn.order, given := (s.afterDecision snap).turn.given,
            ownTurn := (s.afterDecision snap).turn.ownTurn, deciding := false }
        session :=
          { s.session with
            state := (s.afterDecision snap).session.state
            overdrawRun := (s.afterDecision snap).session.overdrawRun
            held := [] }
        seq :=
          { s.seq with
            phase := (s.afterDecision snap).seq.phase, openMode := (s.afterDecision snap).seq.openMode }
        due :=
          { s.due with
            overdraw := (s.afterDecision snap).due.overdraw, reportLost := (s.afterDecision snap).due.reportLost }
        port :=
          { s.port with
            waiting := (s.afterDecision snap).port.waiting, response := (s.afterDecision snap).port.response,
            readPos := (s.afterDecision snap).port.readPos }
        notices := (s.afterDecision snap).notices
        free := (s.afterDecision snap).free } := by
  have decided : (s.planTurns snap).Decided (s.afterDecision snap) :=
    (State.handOwnTurn_decided _).trans (State.takeAllHeld_decided _)
  have turn : (s.afterDecision snap).turn = (s.planTurns snap).turn := decided.turn_eq
  have empty : (s.afterDecision snap).session.held = [] := State.takeAllHeld_held _
  calc s.afterDecision snap = (s.planTurns snap).withDecided (s.afterDecision snap) := decided
    _ = _ := congrArg (State.withDecided · (s.afterDecision snap)) (s.planTurns_eq snap)
    _ = _ := by rw [State.withDecided, turn, empty]

variable {s snap}

theorem exec_turnDecision_afterDecision (held : s.resetHeld = false) (deciding : s.turn.deciding = true)
    (copied : s.share.snapshot = some snap) : exec .turnDecision s = .next (s.afterDecision snap) :=
  exec_turnDecision held deciding copied

theorem State.afterDecision_ownTurn : (s.afterDecision snap).turn.ownTurn = (s.planTurns snap).turn.ownTurn :=
  congrArg Turn.ownTurn (s.decided_turn snap)

/-- The own turn is handed over where the planner gave it to a session in INTENT that nothing has barred. -/
theorem State.planned_handed (own : (s.afterDecision snap).turn.ownTurn = true) (intent : s.session.state = .intent)
    (unbarred : s.turn.barred = false) :
    (s.planTurns snap).handOwnTurn.heldView =
      { state := .precharge, seq := { s.seq with phase := .turnTaken }, port := s.port
        notices := (s.planTurns snap).notices.push (s.sessionNotice .precharge .turn) } := by
  have plan := s.planTurns_eq snap
  rw [State.handOwnTurn_heldView_of_handed ⟨State.afterDecision_ownTurn.symm.trans own,
    (congrArg (fun u : State => u.session.state) plan :).trans intent,
    (congrArg (fun u : State => u.turn.barred) plan :).trans unbarred⟩]
  rw [plan]

theorem State.planned_kept (kept : (s.afterDecision snap).turn.ownTurn = false ∨ s.session.state ≠ .intent
      ∨ s.turn.barred = true) :
    (s.planTurns snap).handOwnTurn.heldView =
      { state := s.session.state, seq := s.seq, port := s.port, notices := (s.planTurns snap).notices } := by
  have plan := s.planTurns_eq snap
  rw [State.handOwnTurn_heldView_of_not]
  · rw [plan]
    rfl
  · rintro ⟨own, intent, unbarred⟩
    rw [← State.afterDecision_ownTurn] at own
    have intent := (congrArg (fun u : State => u.session.state) plan :).symm.trans intent
    have unbarred := (congrArg (fun u : State => u.turn.barred) plan :).symm.trans unbarred
    obtain none | other | barred := kept
    · exact absurd (own.symm.trans none) nofun
    · exact other intent
    · exact absurd (barred.symm.trans unbarred) nofun

/-- The outcome of a turn decision that hands the turn over, by the events that were held. -/
theorem State.handed_outcome (own : (s.afterDecision snap).turn.ownTurn = true) (intent : s.session.state = .intent)
    (unbarred : s.turn.barred = false) {kwh : Nat} {events : List HeldEvent} (held : s.session.held = events)
    (energy : .dockLoss ∈ events → s.session.record.map Record.delivered = some kwh) :
    (events.foldl (Held.take s kwh)
      { state := .precharge, seq := { s.seq with phase := .turnTaken }, port := s.port
        notices := (s.planTurns snap).notices.push (s.sessionNotice .precharge .turn) }).Outcome
      (s.afterDecision snap) := by
  subst held
  rw [← State.planned_handed own intent unbarred]
  exact s.afterDecision_outcome snap energy

/-- The outcome of a turn decision that hands no turn over, by the session's state and the events held. -/
theorem State.kept_outcome (kept : (s.afterDecision snap).turn.ownTurn = false ∨ s.session.state ≠ .intent
      ∨ s.turn.barred = true) {st : SessionState} (state : s.session.state = st) {kwh : Nat}
    {events : List HeldEvent} (held : s.session.held = events)
    (energy : .dockLoss ∈ events → s.session.record.map Record.delivered = some kwh) :
    (events.foldl (Held.take s kwh)
      { state := st, seq := s.seq, port := s.port, notices := (s.planTurns snap).notices }).Outcome
      (s.afterDecision snap) := by
  subst held state
  rw [← State.planned_kept kept]
  exact s.afterDecision_outcome snap energy

end Decision

/-- A dock loss finds the delivered energy of the record. -/
theorem State.energy_of_record {s : State} {r : Record} {p : Prop} (record : s.session.record = some r) :
    p → s.session.record.map Record.delivered = some r.delivered :=
  fun _ => congrArg _ record

/-- Settles O32: the own turn and the held events are taken one after the other on the fields that they see, and
an END that a fault has discarded is answered last. -/
theorem turnDecisionHandsTheOwnTurnOver : Obligations.TurnDecisionHandsTheOwnTurnOver := by
  intro snap s reset deciding copied heard on clash ended lost
  have ascending : heard.Pairwise fun a b => a.pad < b.pad := snap.switchedClaims_ascending _ _
  have notices : (s.planTurns snap).notices =
      if clash then s.notices.push (s.notice .turnClash (clashPad heard) (some heard.length)) else s.notices :=
    s.planTurns_notices snap
  refine ⟨s.afterDecision snap, clashPad heard, exec_turnDecision_afterDecision reset deciding copied,
    fun c => Snapshot.mem_switchedClaims,
    fun branch inside two lowest => clashPad_of_lowest ascending inside two lowest, clashPad_of_none,
    State.takeAllHeld_held _, fun waits => (s.afterDecision_port snap (.inr waits)).1 waits,
    fun absent => (s.afterDecision_port snap (.inl absent)).2, ?_, s.afterDecision_frame snap⟩
  rw [← notices]
  intro q turn
  have busy : ({ s.seq with phase := .turnTaken } : Seq).phase ≠ .idle := nofun
  refine ⟨fun own intent unbarred => ⟨fun none => ?_, fun r record loss => ?_, fun one => ?_,
    fun r record both => ?_, fun r record both => ?_⟩, fun kept => ⟨fun none => ?_, fun r intent record loss => ?_,
    fun intent one => ?_, fun r intent record both => ?_, fun r intent record both => ?_⟩, fun rests => ?_⟩
  · exact (State.handed_outcome (kwh := 0) own intent unbarred none nofun).fields
  · have outcome := State.handed_outcome own intent unbarred loss (State.energy_of_record record)
    rw [Held.handed_loss _ _ _ _ busy] at outcome
    exact outcome.fields
  · have outcome := State.handed_outcome (kwh := 0) own intent unbarred one (by simp)
    rw [List.foldl_cons, Held.end_of_precharge, List.foldl_nil] at outcome
    obtain ⟨state, seq, queue⟩ := outcome.fields
    exact ⟨state, queue, fun free => seq.trans (Seq.requestOpen_normal_eq free busy),
      fun w waits => outcome.answered waits⟩
  · have outcome := State.handed_outcome own intent unbarred both (State.energy_of_record record)
    rw [Held.handed_end_loss _ _ _ _ busy] at outcome
    obtain ⟨state, seq, queue⟩ := outcome.fields
    exact ⟨state, seq, queue, fun w waits => outcome.answered waits⟩
  · have outcome := State.handed_outcome own intent unbarred both (State.energy_of_record record)
    rw [Held.handed_loss_end _ _ _ _ busy] at outcome
    obtain ⟨state, seq, queue⟩ := outcome.fields
    exact ⟨state, seq, queue, fun w waits => outcome.answered waits⟩
  · exact (State.kept_outcome (kwh := 0) kept rfl none nofun).fields
  · have outcome := State.kept_outcome kept intent loss (State.energy_of_record record)
    rw [List.foldl_cons, Held.loss_of_intent, List.foldl_nil] at outcome
    exact outcome.fields
  · have outcome := State.kept_outcome (kwh := 0) kept intent one (by simp)
    rw [List.foldl_cons, Held.end_of_intent, List.foldl_nil] at outcome
    obtain ⟨state, seq, queue⟩ := outcome.fields
    exact ⟨state, seq, queue, fun w waits => outcome.answered waits⟩
  · have outcome := State.kept_outcome kept intent both (State.energy_of_record record)
    rw [Held.kept_end_loss] at outcome
    obtain ⟨state, seq, queue⟩ := outcome.fields
    exact ⟨state, seq, queue, fun w waits => outcome.answered waits⟩
  · have outcome := State.kept_outcome kept intent both (State.energy_of_record record)
    rw [Held.kept_loss_end] at outcome
    obtain ⟨state, seq, queue⟩ := outcome.fields
    exact ⟨state, seq, queue, fun w waits => outcome.answered waits⟩
  · intro emptied loss refused
    have kept : (s.afterDecision snap).turn.ownTurn = false ∨ s.session.state ≠ .intent ∨ s.turn.barred = true :=
      .inr (.inl (by obtain state | state := rests <;> rw [state] <;> decide))
    have calm : s.session.state.charging = false := by obtain state | state := rests <;> rw [state] <;> rfl
    refine ⟨?_, fun none => ?_, fun one => ?_, fun r record one => ?_, fun r record both => ?_⟩
    · have view := State.planned_kept kept
      have state : (s.planTurns snap).handOwnTurn.session.state = s.session.state := (congrArg Held.state view :)
      have seq : (s.planTurns snap).handOwnTurn.seq = s.seq := (congrArg Held.seq view :)
      exact (s.afterDecision_seq snap (state ▸ .inr rests)).trans seq
    · have outcome := State.kept_outcome (kwh := 0) kept rfl none nofun
      obtain ⟨state, -, queue⟩ := outcome.fields
      exact ⟨state, queue, fun w waits ends => outcome.refused waits ends⟩
    · have outcome := State.kept_outcome (kwh := 0) kept rfl one (by simp)
      rw [List.foldl_cons, Held.end_of_rest _ _ _ _ _ calm, List.foldl_nil] at outcome
      obtain ⟨state, -, queue⟩ := outcome.fields
      exact ⟨state, queue, fun w waits _ => outcome.answered waits⟩
    · have outcome := State.kept_outcome kept rfl one (State.energy_of_record record)
      rw [List.foldl_cons, Held.loss_of_ended _ _ _ _ _ rests, List.foldl_nil] at outcome
      obtain ⟨state, -, queue⟩ := outcome.fields
      exact ⟨state, queue, fun w waits ends => outcome.refused waits ends⟩
    · have outcome := State.kept_outcome kept rfl rfl (State.energy_of_record record)
      rw [Held.both_of_ended _ _ _ _ _ rests both] at outcome
      obtain ⟨state, -, queue⟩ := outcome.fields
      exact ⟨state, queue, fun w waits _ => outcome.answered waits⟩

end Sys2Proof.Machine
end

section
-- Proofs elaborated in order keep the number of threads within what the check's memory limit allows.
set_option Elab.async false
/-! The coding of a claim in a frame and in bytes (R1, R4, R192, Tables 11-1 and 11-2), and READ VIEW, which answers
with such bytes (R72, R73, R184). -/

namespace Sys2Proof.Machine

/-! ### Fields of a string of bits (R192) -/

/-- The string of a number holds its low bits and nothing else. -/
theorem bitsOfNat_congr {width n m : Nat} (same : ∀ i < width, n.testBit i = m.testBit i) :
    bitsOfNat width n = bitsOfNat width m := by
  induction width with
  | zero => rfl
  | succ w ih => rw [bitsOfNat, bitsOfNat, same w w.lt_succ_self, ih fun i below => same i (below.trans w.lt_succ_self)]

/-- A string of bits is that of the number it codes. -/
theorem bitsOfNat_natOfBits (bits : List Bool) : bitsOfNat bits.length (natOfBits bits) = bits := by
  induction bits with
  | nil => rfl
  | cons b bits ih =>
    have first : (natOfBits (b :: bits)).testBit bits.length = b := by
      rw [natOfBits_testBit _ _ (Nat.lt_succ_self _)]
      simp
    have rest : ∀ i < bits.length, (natOfBits (b :: bits)).testBit i = (natOfBits bits).testBit i := by
      intro i below
      rw [natOfBits_cons, Nat.mul_comm, Nat.testBit_two_pow_mul_add _ (natOfBits_lt bits), if_pos below]
    rw [List.length_cons, bitsOfNat, first, bitsOfNat_congr rest, ih]

/-- Bit `i` of a field is the string's bit at its place, most significant bit first. -/
theorem fieldOf_testBit {d : List Bool} {offset width i : Nat} (inside : offset + width ≤ d.length)
    (bit : i < width) : (fieldOf d offset width).testBit (width - 1 - i) = d.getD (offset + i) false := by
  have length : ((d.drop offset).take width).length = width := by simp; omega
  rw [fieldOf, natOfBits_testBit _ _ (by omega), length, show width - 1 - (width - 1 - i) = i by omega]
  simp [List.getD_eq_getElem?_getD, bit]

/-- A field that is the whole string is the number written there. -/
theorem fieldOf_whole (width n : Nat) : fieldOf (bitsOfNat width n) 0 width = n % 2 ^ width := by
  rw [fieldOf, List.drop_zero, List.take_of_length_le (bitsOfNat_length width n).le, natOfBits_bitsOfNat]

/-- The field at the start of a string is the number written there. -/
theorem fieldOf_start (width n : Nat) (rest : List Bool) :
    fieldOf (bitsOfNat width n ++ rest) 0 width = n % 2 ^ width := by
  rw [fieldOf, List.drop_zero, List.take_left' (bitsOfNat_length width n), natOfBits_bitsOfNat]

/-- The fields after the first one are those of the rest. -/
theorem fieldOf_skip {width offset : Nat} (n : Nat) (rest : List Bool) (w : Nat) (behind : width ≤ offset) :
    fieldOf (bitsOfNat width n ++ rest) offset w = fieldOf rest (offset - width) w := by
  rw [fieldOf, fieldOf, List.drop_append, bitsOfNat_length, List.drop_of_length_le (by simpa using behind),
    List.nil_append]

/-! ### The frame of a claim (Table 11-1) -/

@[simp] theorem claimBits_length (c : Claim) : (claimBits c).length = 176 := by
  simp [claimBits]

@[simp] theorem halfBits_length (h : Half) : (halfBits h).length = 192 := by
  simp [halfBits]

theorem bitsOfNat_flag (b : Bool) : [b] = bitsOfNat 1 b.toNat := by
  cases b <;> rfl

/-- The frame's fields one after the other. -/
theorem halfBits_eq (h : Half) :
    halfBits h =
      bitsOfNat 6 h.claim.pad ++ (bitsOfNat 3 h.claim.branch ++ (bitsOfNat 4 (kindCode h.claim.kind)
        ++ (bitsOfNat 32 h.claim.identity.toNat ++ (bitsOfNat 10 h.claim.request ++ (bitsOfNat 10 h.claim.floor
        ++ (bitsOfNat 4 h.claim.weight ++ (bitsOfNat 10 h.claim.draw ++ (bitsOfNat 10 h.claim.commit
        ++ (bitsOfNat 2 (intentCode h.claim.intent) ++ (bitsOfNat 8 h.claim.intentAge
        ++ (bitsOfNat 12 h.claim.branchLimit ++ (bitsOfNat 14 h.claim.feederLimit
        ++ (bitsOfNat 14 h.claim.curtailLimit ++ (bitsOfNat 1 h.claim.curtailFlag.toNat
        ++ (bitsOfNat 36 h.claim.heldMask.toNat ++ bitsOfNat 16 h.check.toNat))))))))))))))) := by
  simp only [halfBits, claimBits, List.append_assoc, ← bitsOfNat_flag]

/-- Every field of the frame of a half, modulo its width (Table 11-1). -/
theorem halfBits_fields (h : Half) :
    let d := halfBits h
    fieldOf d 0 6 = h.claim.pad % 2 ^ 6 ∧ fieldOf d 6 3 = h.claim.branch % 2 ^ 3
      ∧ fieldOf d 9 4 = kindCode h.claim.kind % 2 ^ 4 ∧ fieldOf d 13 32 = h.claim.identity.toNat % 2 ^ 32
      ∧ fieldOf d 45 10 = h.claim.request % 2 ^ 10 ∧ fieldOf d 55 10 = h.claim.floor % 2 ^ 10
      ∧ fieldOf d 65 4 = h.claim.weight % 2 ^ 4 ∧ fieldOf d 69 10 = h.claim.draw % 2 ^ 10
      ∧ fieldOf d 79 10 = h.claim.commit % 2 ^ 10 ∧ fieldOf d 89 2 = intentCode h.claim.intent % 2 ^ 2
      ∧ fieldOf d 91 8 = h.claim.intentAge % 2 ^ 8 ∧ fieldOf d 99 12 = h.claim.branchLimit % 2 ^ 12
      ∧ fieldOf d 111 14 = h.claim.feederLimit % 2 ^ 14 ∧ fieldOf d 125 14 = h.claim.curtailLimit % 2 ^ 14
      ∧ fieldOf d 139 1 = h.claim.curtailFlag.toNat % 2 ^ 1 ∧ fieldOf d 140 36 = h.claim.heldMask.toNat % 2 ^ 36
      ∧ fieldOf d 176 16 = h.check.toNat % 2 ^ 16 := by
  intro d
  have frame : d = _ := halfBits_eq h
  refine ⟨?_, ?_, ?_, ?_, ?_, ?_, ?_, ?_, ?_, ?_, ?_, ?_, ?_, ?_, ?_, ?_, ?_⟩ <;>
    simp only [frame, fieldOf_skip, fieldOf_start, fieldOf_whole, Nat.reduceSub, Nat.reduceLeDiff]

/-- The frame of a claim that fits the line holds each value as it is (Tables 11-1 and 11-2). -/
theorem halfBits_fields_of_onLine {h : Half} (fits : h.claim.onLine) :
    let d := halfBits h
    fieldOf d 0 6 = h.claim.pad ∧ fieldOf d 6 3 = h.claim.branch ∧ fieldOf d 9 4 = kindCode h.claim.kind
      ∧ fieldOf d 13 32 = h.claim.identity.toNat ∧ fieldOf d 45 10 = h.claim.request
      ∧ fieldOf d 55 10 = h.claim.floor ∧ fieldOf d 65 4 = h.claim.weight ∧ fieldOf d 69 10 = h.claim.draw
      ∧ fieldOf d 79 10 = h.claim.commit ∧ fieldOf d 89 2 = intentCode h.claim.intent
      ∧ fieldOf d 91 8 = h.claim.intentAge ∧ fieldOf d 99 12 = h.claim.branchLimit
      ∧ fieldOf d 111 14 = h.claim.feederLimit ∧ fieldOf d 125 14 = h.claim.curtailLimit
      ∧ fieldOf d 139 1 = h.claim.curtailFlag.toNat ∧ fieldOf d 140 36 = h.claim.heldMask.toNat
      ∧ fieldOf d 176 16 = h.check.toNat := by
  have kind : kindCode h.claim.kind < 16 := by cases h.claim.kind <;> decide
  have intent : intentCode h.claim.intent < 4 := by cases h.claim.intent <;> decide
  have flag := Bool.toNat_lt h.claim.curtailFlag
  have identity := h.claim.identity.isLt
  have mask := h.claim.heldMask.isLt
  have check := h.check.isLt
  obtain ⟨f1, f2, f3, f4, f5, f6, f7, f8, f9, f10, f11, f12, f13, f14, f15, f16, f17⟩ := halfBits_fields h
  dsimp only
  rw [f1, f2, f3, f4, f5, f6, f7, f8, f9, f10, f11, f12, f13, f14, f15, f16, f17]
  refine ⟨?_, ?_, ?_, ?_, ?_, ?_, ?_, ?_, ?_, ?_, ?_, ?_, ?_, ?_, ?_, ?_, ?_⟩ <;> exact Nat.mod_eq_of_lt (by omega)

theorem kindOfCode_kindCode (k : Kind) : kindOfCode (kindCode k) = some k := by cases k <;> rfl

theorem intentOfCode_intentCode (i : Intent) : intentOfCode (intentCode i) = i := by cases i <;> rfl

/-- The content of a frame is the claim that it was coded from. -/
theorem claimOfBits_halfBits {h : Half} (fits : h.claim.onLine) : claimOfBits (halfBits h) = h.claim := by
  obtain ⟨f1, f2, f3, f4, f5, f6, f7, f8, f9, f10, f11, f12, f13, f14, f15, f16, -⟩ := halfBits_fields_of_onLine fits
  have flag : (h.claim.curtailFlag.toNat == 1) = h.claim.curtailFlag := by cases h.claim.curtailFlag <;> rfl
  rw [claimOfBits, f1, f2, f3, f4, f5, f6, f7, f8, f9, f10, f11, f12, f13, f14, f15, f16, kindOfCode_kindCode,
    intentOfCode_intentCode, flag, BitVec.ofNat_toNat, BitVec.ofNat_toNat]
  rfl

theorem halfBits_take (h : Half) : (halfBits h).take 176 = claimBits h.claim :=
  List.take_left' (claimBits_length h.claim)

theorem frameBits_take (h : Half) : (frameBits h).take 8 = preambleBits := List.take_left' rfl

theorem frameBits_length (h : Half) : (frameBits h).length = 200 := by
  rw [frameBits, List.length_append, halfBits_length]
  rfl

/-! ### The check field (R4) -/

/-- One bit into the register: it moves up by one, and the bit that leaves it, against the new one, is added at the
places of the polynomial's terms. -/
theorem crcStep_getLsbD (r : BitVec 16) (b : Bool) {i : Nat} (inside : i < 16) :
    (crcStep r b).getLsbD i =
      ((decide (1 ≤ i) && r.getLsbD (i - 1)) ^^ ((r.getLsbD 15 ^^ b) && decide (i = 0 ∨ i = 5 ∨ i = 12))) := by
  have terms : (0x1021 : BitVec 16).getLsbD i = decide (i = 0 ∨ i = 5 ∨ i = 12) := by
    revert i
    decide
  have moved : (r <<< 1).getLsbD i = (decide (1 ≤ i) && r.getLsbD (i - 1)) := by
    rw [BitVec.getLsbD_shiftLeft, decide_eq_true inside, Bool.true_and, ← decide_not]
    simp only [Nat.not_lt]
  have leaves : (r.msb != b) = (r.getLsbD 15 ^^ b) := by
    rw [BitVec.msb_eq_getLsbD_last]
  rw [crcStep, leaves]
  cases r.getLsbD 15 ^^ b with
  | true => rw [if_pos rfl, BitVec.getLsbD_xor, moved, terms, Bool.true_and]
  | false => rw [if_neg Bool.false_ne_true, moved, Bool.false_and, Bool.xor_false]

/-- The register's own top bit only moves it up. -/
theorem crcStep_msb (r : BitVec 16) : crcStep r r.msb = r <<< 1 := by
  simp [crcStep]

/-- The low bits of a register, put into it moved up by the others, leave nothing in it. -/
theorem foldl_crcStep_self (r : BitVec 16) {w : Nat} (most : w ≤ 16) :
    (bitsOfNat w r.toNat).foldl crcStep (r <<< (16 - w)) = 0 := by
  induction w with
  | zero => simp [bitsOfNat]
  | succ w ih =>
    have top : r.toNat.testBit w = (r <<< (16 - (w + 1))).msb := by
      rw [BitVec.msb_eq_getLsbD_last, BitVec.getLsbD_shiftLeft]
      simp [BitVec.getLsbD, show 15 - (15 - w) = w by omega]
    rw [bitsOfNat, List.foldl_cons, top, crcStep_msb, ← BitVec.shiftLeft_add,
      show 16 - (w + 1) + 1 = 16 - w by omega]
    exact ih (by omega)

theorem crc16_check (bits : List Bool) : crc16 (bits ++ bitsOfNat 16 (crc16 bits).toNat) = 0 := by
  have key := foldl_crcStep_self (crc16 bits) (w := 16) le_rfl
  rw [crc16_append]
  simpa using key

/-- A frame is valid in its check only with the claim's own check field. -/
theorem check_of_frameValid {h : Half} (valid : frameValid (halfBits h) = true) :
    h.check = crc16 (claimBits h.claim) := by
  obtain ⟨check, -⟩ := (frameValid_iff _).1 valid
  obtain ⟨-, -, -, -, -, -, -, -, -, -, -, -, -, -, -, -, field⟩ := halfBits_fields h
  rw [halfBits_take, field, Nat.mod_eq_of_lt h.check.isLt] at check
  exact (BitVec.eq_of_toNat_eq check).symm

/-- The frame of a claim that fits the line is valid with the claim's own check field. -/
theorem frameValid_halfBits {h : Half} (fits : h.claim.onLine) (own : h.check = crc16 (claimBits h.claim)) :
    frameValid (halfBits h) = true := by
  obtain ⟨pad, branch, kind, -, -, -, -, -, -, -, -, -, -, -, -, -, check⟩ := halfBits_fields_of_onLine fits
  have code : 1 ≤ kindCode h.claim.kind ∧ kindCode h.claim.kind ≤ 5 := by cases h.claim.kind <;> decide
  obtain ⟨padLegal, branchLegal, -⟩ := fits
  rw [frameValid_iff, halfBits_take, check, pad, branch, kind, own]
  exact ⟨rfl, padLegal, branchLegal, code⟩

/-- Settles O12: the frame's fields stand one after the other, and the check register of a string and its own check
field is empty. -/
theorem claimFrameCodingRoundTrips : Obligations.ClaimFrameCodingRoundTrips := by
  refine ⟨fun c fits => ?_, fun d offset width i inside bit => fieldOf_testBit inside bit, rfl,
    fun bits b i inside => ?_, crc16_check, fun c check other => ?_⟩
  · generalize checked : crc16 (claimBits c) = check
    intro h
    have claim : h.claim = c := rfl
    have own : h.check = crc16 (claimBits h.claim) := checked.symm
    clear_value h
    subst claim
    obtain ⟨pad, branch, kind, identity, request, floor, weight, draw, commit, intent, age, branchLimit, feederLimit,
      curtailLimit, flag, mask, check⟩ := halfBits_fields_of_onLine fits
    refine ⟨by rw [frameCells, List.length_map, frameBits_length], hasViolation_map_cellOfBit _,
      bitsBeforeViolation_map_cellOfBit _, frameBits_take h, frameValid_halfBits fits own,
      claimOfBits_halfBits fits, halfBits_length h, pad, branch, kind.trans ?_, identity, request, floor, weight,
      draw, commit, intent.trans ?_, age, branchLimit, feederLimit, curtailLimit, flag.trans ?_, mask, check⟩
    · cases h.claim.kind <;> rfl
    · cases h.claim.intent <;> rfl
    · cases h.claim.curtailFlag <;> rfl
  · rw [crc16_append]
    exact crcStep_getLsbD _ _ inside
  · exact Bool.eq_false_iff.mpr fun valid => other (check_of_frameValid valid)

end Sys2Proof.Machine
end

section
-- Proofs elaborated in order keep the number of threads within what the check's memory limit allows.
set_option Elab.async false
/-! READ VIEW (R72, R73, R184, R192): the bytes of a record, the walk over the entries, and the answer. -/

namespace Sys2Proof.Machine

/-! ### Bytes of a claim (R192) -/

theorem bytesOfBits_length (count : Nat) (bits : List Bool) : (bytesOfBits count bits).length = count := by
  simp [bytesOfBits]

theorem claimBytes_length (c : Claim) : (claimBytes c).length = 22 := bytesOfBits_length 22 _

/-- The bits of a byte taken from a string are the string's. -/
theorem bitsOfNat_byte {bits : List Bool} {offset : Nat} (inside : offset + 8 ≤ bits.length) :
    bitsOfNat 8 (BitVec.ofNat 8 (fieldOf bits offset 8)).toNat = (bits.drop offset).take 8 := by
  have length : ((bits.drop offset).take 8).length = 8 := by simp; omega
  have field : fieldOf bits offset 8 < 2 ^ 8 := by
    have := natOfBits_lt ((bits.drop offset).take 8)
    rwa [length] at this
  rw [BitVec.toNat_ofNat, Nat.mod_eq_of_lt field, fieldOf]
  exact (congrArg (bitsOfNat · _) length).symm.trans (bitsOfNat_natOfBits _)

/-- A string of whole bytes is made of its bytes one after the other. -/
theorem flatMap_take_drop (count : Nat) {bits : List Bool} (whole : bits.length = 8 * count) :
    ((List.range count).flatMap fun i => (bits.drop (8 * i)).take 8) = bits := by
  induction count generalizing bits with
  | zero => exact (List.eq_nil_of_length_eq_zero whole).symm
  | succ n ih =>
    have rest := ih (bits := bits.drop 8) (by simp; omega)
    rw [List.range_succ_eq_map, List.flatMap_cons, List.flatMap_map]
    have shift : (fun i => ((bits.drop 8).drop (8 * i)).take 8) = fun i => (bits.drop (8 * (i + 1))).take 8 := by
      funext i
      rw [List.drop_drop, show 8 + 8 * i = 8 * (i + 1) by omega]
    rw [shift] at rest
    exact (congrArg (bits.take 8 ++ ·) rest).trans (List.take_append_drop 8 bits)

theorem bits_of_bytesOfBits {count : Nat} {bits : List Bool} (whole : bits.length = 8 * count) :
    (bytesOfBits count bits).flatMap (fun b => bitsOfNat 8 b.toNat) = bits := by
  rw [bytesOfBits, List.flatMap_map]
  refine Eq.trans (List.flatMap_congr fun i mem => ?_) (flatMap_take_drop count whole)
  have below := List.mem_range.mp mem
  exact bitsOfNat_byte (by omega)

/-! ### The walk (R72) -/

/-- An entry is examined and gives a record, where it is not passed over. -/
def State.examined (s : State) (skip : Bool) (pos n : Nat) : List Nat :=
  ((List.range n).map fun i => (pos + i) % 36).filter fun pad => !s.passedOver skip pad

theorem State.examined_succ (s : State) (skip : Bool) {pos : Nat} (inside : pos < 36) (n : Nat) :
    s.examined skip pos (n + 1) =
      (if s.passedOver skip pos then [] else [pos]) ++ s.examined skip ((pos + 1) % 36) n := by
  have shift : (fun i => (pos + i) % 36) ∘ Nat.succ = fun i => ((pos + 1) % 36 + i) % 36 := by
    funext i
    simp only [Function.comp_apply]
    omega
  rw [State.examined, List.range_succ_eq_map, List.map_cons, List.map_map, shift, Nat.add_zero,
    Nat.mod_eq_of_lt inside, List.filter_cons]
  by_cases passed : s.passedOver skip pos = true
  · simp [passed, State.examined]
  · simp [passed, State.examined]

/-- The walk gives the records of the entries that it examines, and ends with the last one asked for, or with the last
entry. -/
theorem State.examine_spec (s : State) (skip : Bool) (left count : Nat) {pos : Nat} (inside : pos < 36) :
    ∃ n ≤ left, s.examine skip left count pos = (s.examined skip pos n, (pos + n) % 36)
      ∧ ((s.examined skip pos n).length = count ∨ (n = left ∧ (s.examined skip pos n).length < count))
      ∧ ∀ m < n, (s.examined skip pos m).length < count := by
  induction left generalizing count pos with
  | zero =>
    refine ⟨0, le_rfl, ?_, ?_, nofun⟩
    · rw [State.examine, Nat.add_zero, Nat.mod_eq_of_lt inside]
      rfl
    · exact count.eq_zero_or_pos.imp Eq.symm fun some_left => ⟨rfl, some_left⟩
  | succ left ih =>
    cases count with
    | zero =>
      refine ⟨0, Nat.zero_le _, ?_, .inl rfl, nofun⟩
      rw [State.examine, Nat.add_zero, Nat.mod_eq_of_lt inside]
      rfl
    | succ count =>
      have next : (pos + 1) % 36 < 36 := Nat.mod_lt _ (by decide)
      have wraps (n : Nat) : ((pos + 1) % 36 + n) % 36 = (pos + (n + 1)) % 36 := by omega
      by_cases passed : s.passedOver skip pos = true
      · obtain ⟨n, most, walk, ends, before⟩ := ih (count + 1) next
        have given (m : Nat) : s.examined skip pos (m + 1) = s.examined skip ((pos + 1) % 36) m := by
          rw [s.examined_succ skip inside, if_pos passed, List.nil_append]
        refine ⟨n + 1, Nat.succ_le_succ most, ?_, ?_, fun m below => ?_⟩
        · rw [State.examine, given, ← wraps n]
          exact (if_pos passed).trans walk
        · rw [given]
          exact ends.imp_right fun ⟨last, few⟩ => ⟨congrArg Nat.succ last, few⟩
        · cases m with
          | zero => exact Nat.succ_pos count
          | succ m => exact given m ▸ before m (Nat.lt_of_succ_lt_succ below)
      · obtain ⟨n, most, walk, ends, before⟩ := ih count next
        have given (m : Nat) : s.examined skip pos (m + 1) = pos :: s.examined skip ((pos + 1) % 36) m := by
          rw [s.examined_succ skip inside, if_neg passed, List.singleton_append]
        refine ⟨n + 1, Nat.succ_le_succ most, ?_, ?_, fun m below => ?_⟩
        · rw [State.examine, given, ← wraps n]
          exact (if_neg passed).trans (congrArg (fun walk => (pos :: walk.1, walk.2)) walk)
        · rw [given, List.length_cons]
          exact ends.imp (congrArg Nat.succ) fun ⟨last, few⟩ => ⟨congrArg Nat.succ last, Nat.succ_lt_succ few⟩
        · cases m with
          | zero => exact Nat.succ_pos count
          | succ m =>
            rw [given, List.length_cons]
            exact Nat.succ_lt_succ (before m (Nat.lt_of_succ_lt_succ below))

/-! ### The answer (R184) -/

theorem flatMap_length_of_const {α : Type} {l : List α} {f : α → List Byte} {k : Nat}
    (each : ∀ a, (f a).length = k) :
    (l.flatMap f).length = k * l.length := by
  simp [List.length_flatMap, each, Nat.mul_comm]

theorem exec_readViewAccess {s : State} {w : PortWait} {start : Option Nat} {count : Nat} {skip : Bool}
    (held : s.resetHeld = false) (grant : s.store.grant = some .readView) (waits : s.port.waiting = some w)
    (command : w.command = .readView start count skip) :
    exec .readViewAccess s =
      .next
        { s with
          view := { s.view with cursor := (s.examine skip 36 count (start.getD s.view.cursor)).2 }
          store := s.store.release
          port := s.port.finishing w (s.viewResponse (s.examine skip 36 count (start.getD s.view.cursor)).1) } := by
  obtain ⟨kind, lost⟩ := w
  obtain rfl : kind = .readView start count skip := command
  rw [exec, execReadViewAccess, State.act_taken _ held (by simp [State.granted, grant])]
  simp only [waits]
  exact congrArg _ (State.answerWaiting_eq _ (by exact waits) _)

theorem State.passedOver_eq (s : State) (skip : Bool) (pad : Nat) :
    s.passedOver skip pad = (skip && s.standing.pad != some pad && (s.view.entry pad).state == .empty) := by
  have sides : (some pad != s.standing.pad) = (s.standing.pad != some pad) := bne_comm
  rw [State.passedOver, sides]

/-- The record of a pad, byte by byte (R73, Table 11-6). -/
theorem State.viewRecord_eq (s : State) (pad : Nat) :
    s.viewRecord pad =
      if s.standing.pad = some pad then
        [BitVec.ofNat 8 pad, 5, 1] ++ claimBytes { s.line.sent.claim with pad := pad } ++ [0, 0, 0, 0, 0]
      else entryRecord pad (s.view.entry pad) := by
  by_cases own : s.standing.pad = some pad
  · rw [State.viewRecord, if_pos own.symm, if_pos own]
    simp only [selfRecord, List.append_assoc]
    rfl
  · rw [State.viewRecord, if_neg (Ne.symm own), if_neg own]

theorem entryRecord_length (pad : Nat) (e : Entry) : (entryRecord pad e).length = 30 := by
  have claim : ((e.claim.map claimBytes).getD (List.replicate 22 0)).length = 22 := by
    cases e.claim with
    | none => rfl
    | some c => exact claimBytes_length c
  simp only [entryRecord, List.length_append, claim, byte1, byte2, List.length_cons, List.length_nil]

theorem State.viewRecord_length (s : State) (pad : Nat) : (s.viewRecord pad).length = 30 := by
  rw [State.viewRecord_eq]
  split
  · simp [claimBytes_length]
  · exact entryRecord_length pad _

theorem State.viewResponse_eq (s : State) (pads : List Nat) :
    s.viewResponse pads =
      0x80 :: BitVec.ofNat 8 (1 + 30 * pads.length) :: BitVec.ofNat 8 pads.length :: pads.flatMap s.viewRecord := by
  rw [State.viewResponse, responseFrame, List.length_append, flatMap_length_of_const s.viewRecord_length]
  rfl

/-- Settles O20: the walk examines the entries from its position on, and each of those that it does not pass over
gives its record. -/
theorem readViewWalksTheEntries : Obligations.ReadViewWalksTheEntries := by
  intro start count skip w s held grant waits command inside some_asked pos given flag record
  obtain ⟨n, most, walk, ends, before⟩ := s.examine_spec skip 36 count inside
  have given_eq : given = s.examined skip pos := by
    funext m
    simp only [given, State.examined, s.passedOver_eq]
  have claim_eq (e : Entry) : (e.claim.map claimBytes).getD (List.replicate 22 0) =
      match e.claim with
      | some c => claimBytes c
      | none => List.replicate 22 0 := by
    cases e.claim <;> rfl
  have record_eq : s.viewRecord = record := by
    funext pad
    rw [s.viewRecord_eq]
    by_cases own : s.standing.pad = some pad
    · exact (if_pos own).trans (if_pos own).symm
    · refine (if_neg own).trans (Eq.trans ?_ (if_neg own).symm)
      rw [entryRecord, claim_eq]
      rfl
  refine ⟨n, _, exec_readViewAccess held grant waits command, fun c => ⟨claimBytes_length c, ?_⟩,
    fun pad => ?_, rfl, most, ?_, ?_, ?_⟩
  · exact bits_of_bytesOfBits (claimBits_length c)
  · rw [← record_eq]
    exact s.viewRecord_length pad
  · rw [given_eq]
    exact ends
  · rw [given_eq]
    exact before
  · rw [walk, given_eq, ← record_eq, s.viewResponse_eq]

end Sys2Proof.Machine
end
